-- ==== Sys2Proof/Word.lean ====
section
/-! DEFINITION. The word and byte types of SNOW2_CORE (spec/00_scope.md R8): every value is an unsigned
32-bit word or an unsigned 8-bit byte, bit 0 least significant. -/

namespace Sys2Proof

/-- An unsigned 8-bit byte (R8). -/
abbrev Byte := BitVec 8

/-- An unsigned 32-bit word (R8). -/
abbrev Word := BitVec 32

end Sys2Proof
end

