-- ==== Sys2Proof/Syntax.lean ====
section
/-! DEFINITION. The commands of SNOW2_CORE, one constructor per row of spec/opcode_table.json
(spec/30_encoding.md R80 to R83). A command names no registers (spec/10_state.md R20): only SETUP has operands
of its own, two byte counts. -/

namespace Sys2Proof

/-- A command (R83). KLEN and IVLEN are counts, so they are natural numbers here; that they fit their 8-bit
fields is `Instr.WellFormed` (R82; log 9). -/
inductive Instr where
  /-- No operation (R210). -/
  | nop
  /-- Validate the lengths, load the LFSR from KEY and IV, start the 32 init clocks (R161). -/
  | setup (klen ivlen : Nat)
  /-- XOR one data byte with the next keystream byte (R192). -/
  | xorb
  /-- XOR one data word with the next four keystream bytes (R194). -/
  | xorw
  /-- Multiply DIN by alpha (R107). -/
  | mula
  /-- Multiply DIN by alpha^-1 (R108). -/
  | mulai
  /-- Apply the FSM substitution to DIN (R124). -/
  | sbox
  deriving DecidableEq, Repr

end Sys2Proof
end

