-- ==== Sys2Proof/WellFormed.lean ====
section
/-! DEFINITION. When a command can be written as a command word: SETUP's two byte counts fit their 8-bit fields
(spec/30_encoding.md R81, R82). Every other command has no operand and is always well-formed. Lengths other
than 16, 32 and 16 are well-formed: the SETUP rule rejects them, not the encoding (R81). -/

namespace Sys2Proof

/-- `klen` fits cmd[15:8] and `ivlen` fits cmd[23:16] (R80, R82). -/
abbrev Instr.WellFormed : Instr → Prop
  | .setup klen ivlen => klen < 256 ∧ ivlen < 256
  | .nop => True
  | .xorb => True
  | .xorw => True
  | .mula => True
  | .mulai => True
  | .sbox => True

end Sys2Proof
end

