-- ==== Sys2Proof/Decode.lean ====
section
/-! DEFINITION. Command words (spec/30_encoding.md R80 to R86): the opcode map as mask and match rows, the total
decoder that names why a word is illegal, and after it the encoder. -/

namespace Sys2Proof

/-! ## Fields of a command word (R80) -/

/-- OP, cmd[7:0]. -/
def opField (w : Word) : Byte := w.extractLsb' 0 8

/-- KLEN, cmd[15:8], as a byte count (R82). -/
def klenField (w : Word) : Nat := (w.extractLsb' 8 8).toNat

/-- IVLEN, cmd[23:16], as a byte count (R82). -/
def ivlenField (w : Word) : Nat := (w.extractLsb' 16 8).toNat

/-- RSV, cmd[31:24]. -/
def rsvField (w : Word) : Byte := w.extractLsb' 24 8

/-! ## The opcode map (R83) -/

/-- One row of the opcode map: a word selects it when `(cmd AND mask) = pattern`. -/
structure OpcodeRow where
  mask : Word
  pattern : Word
  deriving DecidableEq, Repr

/-- `(cmd AND mask) = match` (R83). -/
def OpcodeRow.selects (r : OpcodeRow) (w : Word) : Bool := w &&& r.mask == r.pattern

/-- Format C0: bits 31:8 must all be 0 (R81). -/
def formatC0 (op : Word) : OpcodeRow := ⟨0xFFFFFFFF, op⟩

/-- Format CS: bits 31:24 must be 0, KLEN and IVLEN are free (R81). -/
def formatCS (op : Word) : OpcodeRow := ⟨0xFF0000FF, op⟩

def rowNop : OpcodeRow := formatC0 0x00
def rowSetup : OpcodeRow := formatCS 0x01
def rowXorb : OpcodeRow := formatC0 0x02
def rowXorw : OpcodeRow := formatC0 0x03
def rowMula : OpcodeRow := formatC0 0x10
def rowMulai : OpcodeRow := formatC0 0x11
def rowSbox : OpcodeRow := formatC0 0x12

/-- The seven rows, in the map's order. -/
def opcodeMap : List OpcodeRow := [rowNop, rowSetup, rowXorb, rowXorw, rowMula, rowMulai, rowSbox]

/-- The row of the opcode map a command belongs to. -/
def rowOf : Instr → OpcodeRow
  | .nop => rowNop
  | .setup _ _ => rowSetup
  | .xorb => rowXorb
  | .xorw => rowXorw
  | .mula => rowMula
  | .mulai => rowMulai
  | .sbox => rowSbox

/-! ## The decoder (R84, R85) -/

/-- Why a command word is illegal: the three conditions of R84. All of them are reported to the host as
E_ILLEGAL; the name is the model's own record of the reason (log 12). -/
inductive Illegal where
  /-- OP is not one of the seven opcodes. -/
  | reservedOpcode
  /-- OP is a Format C0 opcode and cmd[31:8] is not 0. -/
  | nonzeroOperandBits
  /-- OP is SETUP and cmd[31:24] is not 0. -/
  | nonzeroReservedBits
  deriving DecidableEq, Repr

/-- The condition of R84 that holds of a word that no row of the opcode map selects. -/
def illegalReason (w : Word) : Illegal :=
  if opField w = 0x01 then .nonzeroReservedBits
  else if [0x00, 0x02, 0x03, 0x10, 0x11, 0x12].contains (opField w) then .nonzeroOperandBits
  else .reservedOpcode

/-- The command a word stands for, or why it is illegal (R83, R84). Total: every 32-bit word has one outcome
(R85), and no state changes the decoding (R86). -/
def decode (w : Word) : Except Illegal Instr :=
  if rowNop.selects w then .ok .nop
  else if rowSetup.selects w then .ok (.setup (klenField w) (ivlenField w))
  else if rowXorb.selects w then .ok .xorb
  else if rowXorw.selects w then .ok .xorw
  else if rowMula.selects w then .ok .mula
  else if rowMulai.selects w then .ok .mulai
  else if rowSbox.selects w then .ok .sbox
  else .error (illegalReason w)

/-- The command word whose bits, numbered as spec/opcode_table.json numbers them, are `w`, the bits from `nbits`
up being 0. A command is one 32-bit value, not a sequence of bytes, so no byte order enters (R64, R80). -/
def tableWord (nbits w : Nat) : Word := BitVec.ofNat 32 (w % 2 ^ nbits)

/-- The command the decoder reads from `tableWord nbits w`; none where it is illegal. -/
def decodeTableWord (nbits w : Nat) : Option Instr :=
  match decode (tableWord nbits w) with
  | .ok i => some i
  | .error _ => none

/-! ## The encoder (R80, R83, R89) -/

/-- The word of a command: for SETUP `(ivlen << 16) | (klen << 8) | 0x01` (R89), for the others the opcode. -/
def encode : Instr → Word
  | .nop => 0x00000000
  | .setup klen ivlen => BitVec.ofNat 32 ivlen <<< 16 ||| BitVec.ofNat 32 klen <<< 8 ||| 0x01
  | .xorb => 0x00000002
  | .xorw => 0x00000003
  | .mula => 0x00000010
  | .mulai => 0x00000011
  | .sbox => 0x00000012

end Sys2Proof
end

