-- ==== Sys2Proof/Machine/State.lean ====
section
/-! DEFINITION. The state of SNOW2_CORE as plain data (spec/10_state.md), the reasons a step can stop, and the
state after reset (R41). The last four fields are not registers: they hold the host's side and the two open
parameters of spec/00_scope.md R7, so that one deterministic step can run the two agents of R14 (log 2, 3, 4,
11). There is no memory field: the block has no data memory and fetches nothing (spec/20_memory.md R60; log 1). -/

namespace Sys2Proof.Machine

/-- PHASE, the setup sequencer's state (R26). Encoding 3 never occurs (R26; log 8). -/
inductive Phase where
  /-- 0: no successful SETUP has completed its load since reset. -/
  | unkeyed
  /-- 1: the 32 init clocks are running. -/
  | init
  /-- 2: keystream is available. -/
  | ready
  deriving DecidableEq, Repr

/-- ERR, the result code of the most recent write to CMD (R29). Codes 6 to 15 are never produced (R29; log 8). -/
inductive Err where
  /-- 0, OK. -/
  | ok
  /-- 1, E_KEYSIZE. -/
  | keySize
  /-- 2, E_IVSIZE. -/
  | ivSize
  /-- 3, E_NOTREADY. -/
  | notReady
  /-- 4, E_BUSY. -/
  | busy
  /-- 5, E_ILLEGAL. -/
  | illegal
  deriving DecidableEq, Repr

/-- The two forms of the clock transition (R143, R144). -/
inductive ClockMode where
  /-- INITMODE: F is fed back into the new LFSR word. -/
  | initMode
  /-- KSMODE: the keystream clock. -/
  | ksMode
  deriving DecidableEq, Repr

/-- The sixteen registers of the window (R36). -/
inductive Reg where
  | cmd
  | status
  | din
  | dout
  | key (i : Fin 8)
  | iv (j : Fin 4)
  deriving DecidableEq, Repr

/-- The width of a bus access; only `word` is defined (spec/20_memory.md R64). -/
inductive AccessSize where
  | byte
  | half
  | word
  deriving DecidableEq, Repr

/-- What the HOST does next (spec/00_scope.md R12, spec/30_encoding.md R88, R89). Addresses are bus addresses;
the register window begins at BASE. -/
inductive HostOp where
  /-- `wr`: a bus write of `v`. -/
  | wr (size : AccessSize) (addr : Nat) (v : Word)
  /-- `rd`: a bus read; the value read is an observation of the program. -/
  | rd (size : AccessSize) (addr : Nat)
  /-- `wait_ready`: read STATUS until bit 0 reads 0 (R89; spec/70_reset_and_hazards.md R260; log 13). -/
  | waitReady
  deriving DecidableEq, Repr

/-- Who takes the next step (spec/00_scope.md R14, spec/70_reset_and_hazards.md R250, R253). -/
inductive Turn where
  /-- The HOST performs its next access. -/
  | host
  /-- The CORE performs a TICK. -/
  | core
  /-- Reset, asynchronous to the host (R250). -/
  | reset
  /-- A second host drives the block: outside the model (spec/20_memory.md R72). -/
  | secondHost
  deriving DecidableEq, Repr

/-- The block has no fault: the clock, the field functions, Sfsm and the byte source are total and every error
is a code in ERR (spec/60_exceptions.md R226, R231). The type is empty, so nothing raises one: safe (log 17). -/
inductive Fault where
  deriving DecidableEq, Repr

/-- Why the model has no step. -/
inductive Refusal where
  /-- Raised by an arm of `exec` that has no meaning yet; no arm raises it now. Safe: the model stops. -/
  | notModelled (mnemonic : String)
  /-- Raised by an 8-bit or 16-bit bus access, which the spec does not define (spec/20_memory.md R64). Safe. -/
  | narrowAccess
  /-- Raised by a 32-bit access whose offset in the window is not a multiple of 4 (R64). Safe. -/
  | misalignedAccess
  /-- Raised by an access outside the 64-byte window (R64). Safe. -/
  | outsideWindow
  /-- Raised by a turn of a second host, for which the model has no step (R72, R265). Safe. -/
  | secondHost
  deriving DecidableEq, Repr

/-- Everything the spec gives the machine, and the environment it is run in. -/
@[ext]
structure State where
  /-- S[0..15], index 0 the oldest word (R22, R23). -/
  lfsr : Vector Word 16
  /-- R1 (R24). -/
  r1 : Word
  /-- R2 (R24). -/
  r2 : Word
  /-- KBUF, the whole last keystream word (R25). -/
  kbuf : Word
  /-- KREM, how many bytes of KBUF are still unused (R25). -/
  krem : BitVec 2
  /-- PHASE (R26). BUSY is derived from it (R27). -/
  phase : Phase
  /-- ICNT, the init clocks done since the last successful SETUP (R28). -/
  icnt : BitVec 6
  /-- ERR (R29). -/
  err : Err
  /-- DIN (R30). -/
  din : Word
  /-- DOUT (R31). -/
  dout : Word
  /-- KEY[0..7] (R32). -/
  key : Vector Word 8
  /-- IV[0..3] (R33). -/
  iv : Vector Word 4
  /-- BASE, the bus address of the register window: an open parameter, written by no step (R7; log 4). -/
  base : Nat
  /-- The HOST's accesses still to be done, in program order (R14, R70; log 2). -/
  program : List HostOp
  /-- TICK_SCHEDULE: who takes each of the next steps, an open parameter (R7, R253; log 3). -/
  schedule : List Turn
  /-- The values the program's reads returned, oldest first (R266; log 11). -/
  reads : List Word
  deriving DecidableEq, Repr

/-- What a step or a command answers. -/
abbrev Result := Host.Outcome State Fault Refusal

/-- The machine right after reset (R41): every piece of state 0, PHASE UNKEYED, ERR OK. BASE 0 and the empty
program, schedule and reads are the model's (DESIGN CHOICE, log 2, 3, 4, 11): the spec gives them no value. -/
def State.reset : State where
  lfsr := Vector.replicate 16 0
  r1 := 0
  r2 := 0
  kbuf := 0
  krem := 0
  phase := .unkeyed
  icnt := 0
  err := .ok
  din := 0
  dout := 0
  key := Vector.replicate 8 0
  iv := Vector.replicate 4 0
  base := 0
  program := []
  schedule := []
  reads := []

end Sys2Proof.Machine
end

