-- ==== Sys2Proof/Machine/Flags.lean ====
section
/-! DEFINITION. The flags of SNOW2_CORE are the fields of STATUS (spec/10_state.md R35); there are no condition
codes. BUSY is derived from PHASE (R27). -/

namespace Sys2Proof.Machine

/-- The 2-bit encoding of PHASE (R26). -/
def Phase.code : Phase → BitVec 2
  | .unkeyed => 0
  | .init => 1
  | .ready => 2

/-- The 4-bit code of ERR (R29). -/
def Err.code : Err → BitVec 4
  | .ok => 0
  | .keySize => 1
  | .ivSize => 2
  | .notReady => 3
  | .busy => 4
  | .illegal => 5

/-- BUSY = 1 exactly when PHASE = INIT (R27). -/
def State.busy (s : State) : Bool := s.phase == .init

/-- `STATUS = BUSY | (PHASE << 1) | (KREM << 4) | (ERR << 8) | (ICNT << 16)` (R35). -/
def State.status (s : State) : Word :=
  (BitVec.ofBool s.busy).setWidth 32
    ||| s.phase.code.setWidth 32 <<< 1
    ||| s.krem.setWidth 32 <<< 4
    ||| s.err.code.setWidth 32 <<< 8
    ||| s.icnt.setWidth 32 <<< 16

end Sys2Proof.Machine
end

