-- ==== Sys2Proof/Config.lean ====
section
/-! DEFINITION. What is fixed for every SNOW2_CORE (spec/00_scope.md R6, R10; spec/43_setup.md R163). The two
open parameters of R7, BASE and TICK_SCHEDULE, are fields of State (log 3, log 4), so that a statement about
every state is a statement about every value of them. The spec leaves no result undefined, so there is no free
value here. -/

namespace Sys2Proof.Config

/-- The initialisation clocks of one setup (R6). -/
def initClocks : Nat := 32

/-- The smaller key size in bytes (R6). -/
def keyBytes128 : Nat := 16

/-- The larger key size in bytes (R6). -/
def keyBytes256 : Nat := 32

/-- The IV size in bytes (R6). -/
def ivBytes : Nat := 16

/-- The size of the register window in bytes (R6, R36). -/
def windowBytes : Nat := 64

/-- The polynomial x^8 + x^7 + x^5 + x^3 + 1 of the alpha arithmetic (R10, R100; 90_conflicts.md C4). -/
def polyA : BitVec 9 := 0x1A9

/-- The polynomial x^8 + x^4 + x^3 + x + 1 of the S-box and its column mix (R10). -/
def polyS : BitVec 9 := 0x11B

end Sys2Proof.Config
end

