-- ==== Sys2Proof/Machine/Bits.lean ====
section
/-! DEFINITION. Byte and word notation of spec/00_scope.md R8 and R9. -/

namespace Sys2Proof.Machine

/-- `byte_k(w) = w[8k+7:8k]`; `byte_3` is the most significant byte (R8). -/
def byteOf (k : Nat) (w : Word) : Byte := w.extractLsb' (8 * k) 8

/-- `zext_32` of a byte (R8). -/
def zext32 (b : Byte) : Word := b.setWidth 32

/-- `be32(b0, b1, b2, b3)`: big-endian assembly, `b0` most significant (R9). -/
def be32 (b0 b1 b2 b3 : Byte) : Word :=
  zext32 b0 <<< 24 ||| zext32 b1 <<< 16 ||| zext32 b2 <<< 8 ||| zext32 b3

/-- `add32`, addition modulo 2^32 (R9). -/
def add32 (a b : Word) : Word := a + b

/-- `rotl8(b, n)` (R9). -/
def rotl8 (b : Byte) (n : Nat) : Byte := b.rotateLeft n

end Sys2Proof.Machine
end

