-- ==== Sys2Proof/Machine/Operands.lean ====
section
/-! DEFINITION. The operand forms of the commands (spec/30_encoding.md R82): the data byte and data word in DIN,
and the key and IV columns of the load map (spec/43_setup.md R163 to R165). -/

namespace Sys2Proof.Machine

/-- XORB's data byte, DIN[7:0]; DIN[31:8] is ignored (R192). -/
def State.dinByte (s : State) : Byte := byteOf 0 s.din

/-- The data word of XORW, MULA, MULAI and SBOX: all of DIN (R82). -/
def State.dinWord (s : State) : Word := s.din

/-- The key column of the 128-bit load map, from S[0] up; KEY[4..7] are not read (R163, R164). -/
def keyColumn128 (k : Vector Word 8) : Vector Word 16 :=
  #v[~~~k[3], ~~~k[2], ~~~k[1], ~~~k[0], k[3], k[2], k[1], k[0],
     ~~~k[3], ~~~k[2], ~~~k[1], ~~~k[0], k[3], k[2], k[1], k[0]]

/-- The key column of the 256-bit load map, from S[0] up (R165). -/
def keyColumn256 (k : Vector Word 8) : Vector Word 16 :=
  #v[~~~k[7], ~~~k[6], ~~~k[5], ~~~k[4], ~~~k[3], ~~~k[2], ~~~k[1], ~~~k[0],
     k[7], k[6], k[5], k[4], k[3], k[2], k[1], k[0]]

/-- `MapKey(klen, i)` (R166): column `i` of R164 for klen = 16, of R165 for klen = 32. SETUP rejects every other
length before it loads (R162). -/
def mapKey (klen : Nat) (k : Vector Word 8) (i : Fin 16) : Word :=
  if klen = Config.keyBytes128 then (keyColumn128 k)[i] else (keyColumn256 k)[i]

/-- `MapIV(i)` (R166): IV[0], IV[1], IV[2], IV[3] at S[15], S[12], S[10], S[9], and 0 elsewhere, for both key
sizes (R165). -/
def mapIV (v : Vector Word 4) (i : Fin 16) : Word :=
  match i.val with
  | 15 => v[0]
  | 12 => v[1]
  | 10 => v[2]
  | 9 => v[3]
  | _ => 0

end Sys2Proof.Machine
end

