-- ==== Sys2Proof/Machine/Field.lean ====
section
/-! DEFINITION. The field arithmetic of SNOW2_CORE: bytes over GF(2) (spec/00_scope.md R10), the field GF(2^32) and
alpha (spec/40_field_arith.md R100, R101), and multiplication by alpha and alpha^-1 (R102, R105). -/

namespace Sys2Proof.Machine

/-- `xtime(a, P)`: the byte `a` times x, reduced modulo the degree-8 polynomial `p` (R10). -/
def xtime (a : Byte) (p : BitVec 9) : Byte :=
  if a.msb then a <<< 1 ^^^ p.setWidth 8 else a <<< 1

/-- The sum of `a`, `a·x`, `a·x^2`, … over the first `n` coefficients of `b` that are 1. -/
def gmul8Sum (p : BitVec 9) : Nat → Byte → Byte → Byte
  | 0, _, _ => 0
  | n + 1, a, b => (if b.getLsbD 0 then a else 0) ^^^ gmul8Sum p n (xtime a p) (b >>> 1)

/-- `gmul8(a, b, P)`: the product of two bytes as polynomials over GF(2) modulo `p` (R10). -/
def gmul8 (a b : Byte) (p : BitVec 9) : Byte := gmul8Sum p 8 a b

/-! ## GF(2^32) (R101) -/

/-- The coefficient bytes of alpha^4 in the basis alpha^3, alpha^2, alpha, 1:
beta^23, beta^245, beta^48 and beta^239 (R101). -/
def alpha4 : Byte × Byte × Byte × Byte := (0xE1, 0x9F, 0xCF, 0x13)

/-- alpha, the class of y, as a word (R101). -/
def alpha : Word := be32 0x00 0x00 0x01 0x00

/-- alpha^-1 = beta^16·alpha^3 + beta^39·alpha^2 + beta^6·alpha + beta^64 (R101). -/
def alphaInv : Word := be32 0x18 0x0F 0x40 0xCD

/-- Product in the byte field of the alpha arithmetic (R100). -/
def mulByte (a b : Byte) : Byte := gmul8 a b Config.polyA

/-- The coefficient of y^k, for k = 0..6, of the product of two words taken as polynomials in y of degree at
most 3 over GF(2^8) (R101). -/
def coeff (u v : Word) (k : Nat) : Byte :=
  (List.range 4).foldl
    (fun acc i => if i ≤ k ∧ k ≤ i + 3 then acc ^^^ mulByte (byteOf i u) (byteOf (k - i) v) else acc) 0

/-- The field product of two words: the polynomial product, with y^6, y^5 and y^4 replaced in turn by
y^4 = beta^23 y^3 + beta^245 y^2 + beta^48 y + beta^239 (R101). -/
def gf32Mul (u v : Word) : Word :=
  let c6 := coeff u v 6
  let c5 := coeff u v 5 ^^^ mulByte c6 alpha4.1
  let c4 := coeff u v 4 ^^^ mulByte c6 alpha4.2.1 ^^^ mulByte c5 alpha4.1
  let c3 := coeff u v 3 ^^^ mulByte c6 alpha4.2.2.1 ^^^ mulByte c5 alpha4.2.1 ^^^ mulByte c4 alpha4.1
  let c2 := coeff u v 2 ^^^ mulByte c6 alpha4.2.2.2 ^^^ mulByte c5 alpha4.2.2.1 ^^^ mulByte c4 alpha4.2.1
  let c1 := coeff u v 1 ^^^ mulByte c5 alpha4.2.2.2 ^^^ mulByte c4 alpha4.2.2.1
  let c0 := coeff u v 0 ^^^ mulByte c4 alpha4.2.2.2
  be32 c3 c2 c1 c0

/-! ## The multipliers -/

/-- `MulAlpha(w)`: one lookup on the top byte and a byte shift (R102). -/
def mulAlpha (w : Word) : Word := w <<< 8 ^^^ mulA (byteOf 3 w)

/-- `MulAlphaInv(w)`: one lookup on the bottom byte and a byte shift (R105; 90_conflicts.md C6). -/
def mulAlphaInv (w : Word) : Word := w >>> 8 ^^^ mulAI (byteOf 0 w)

end Sys2Proof.Machine
end

