-- ==== Sys2Proof/Machine/Substitution.lean ====
section
/-! DEFINITION. The FSM substitution (spec/41_sbox.md): SBOX8 on each of the four byte lanes, then the column mix
over 0x11B with lane 0 = byte_0 as the column's first entry (R120 to R123), and the equivalent form by four
combined tables (R125). -/

namespace Sys2Proof.Machine

/-- Product in the byte field of the column mix (R122). -/
def mulS (a b : Byte) : Byte := gmul8 a b Config.polyS

/-- The column mix of the substituted lanes `t0..t3`; the result's lanes are r0..r3, r0 least significant
(R122, R123). -/
def mixColumn (t0 t1 t2 t3 : Byte) : Word :=
  let r0 := mulS t0 2 ^^^ mulS t1 3 ^^^ t2 ^^^ t3
  let r1 := t0 ^^^ mulS t1 2 ^^^ mulS t2 3 ^^^ t3
  let r2 := t0 ^^^ t1 ^^^ mulS t2 2 ^^^ mulS t3 3
  let r3 := mulS t0 3 ^^^ t1 ^^^ t2 ^^^ mulS t3 2
  be32 r3 r2 r1 r0

/-- `Sfsm(w)` (R123). -/
def sfsm (w : Word) : Word :=
  mixColumn (sbox8 (byteOf 0 w)) (sbox8 (byteOf 1 w)) (sbox8 (byteOf 2 w)) (sbox8 (byteOf 3 w))

/-- The combined table T0 (R125). -/
def tTable0 (a : Byte) : Word := be32 (mulS (sbox8 a) 3) (sbox8 a) (sbox8 a) (mulS (sbox8 a) 2)

/-- The combined table T1 (R125). -/
def tTable1 (a : Byte) : Word := be32 (sbox8 a) (sbox8 a) (mulS (sbox8 a) 2) (mulS (sbox8 a) 3)

/-- The combined table T2 (R125). -/
def tTable2 (a : Byte) : Word := be32 (sbox8 a) (mulS (sbox8 a) 2) (mulS (sbox8 a) 3) (sbox8 a)

/-- The combined table T3 (R125). -/
def tTable3 (a : Byte) : Word := be32 (mulS (sbox8 a) 2) (mulS (sbox8 a) 3) (sbox8 a) (sbox8 a)

end Sys2Proof.Machine
end

