-- ==== Sys2Proof/Machine/Ops.lean ====
section
/-! DEFINITION. The shared operations over the state: the end of a command (spec/00_scope.md R13), the clock and
the keystream (spec/42_state_machine.md), the byte source (spec/44_stream.md R190), the load and the init
sequencer (spec/43_setup.md R166, R170), reset (spec/70_reset_and_hazards.md R250) and the register window
(spec/10_state.md R36 to R38). -/

namespace Sys2Proof.Machine

/-! ## How a command ends (R13) -/

/-- `reject(code)`: the block's whole error entry. It writes ERR and changes nothing else: nothing is saved, no
mode changes and no control is transferred (R13, R222, R231). There is no return from an error (R232). -/
def State.reject (s : State) (code : Err) : State := { s with err := code }

/-- `ERR <- OK`, the end of a command that succeeded (R13). -/
def State.accept (s : State) : State := { s with err := .ok }

/-- A command runs only when BUSY = 0; otherwise it is dropped with E_BUSY (R85, R223). -/
def command (s : State) (body : State → State) : Result :=
  .next (if s.busy then s.reject .busy else body s)

/-- The keystream commands are rejected with E_NOTREADY while PHASE = UNKEYED (R225). -/
def whenKeyed (s : State) (body : State → State) : State :=
  if s.phase = .unkeyed then s.reject .notReady else body s

/-- A test-access command: `DOUT <- f(DIN); ERR <- OK`, the cipher state untouched (R107, R108, R124). -/
def testAccess (s : State) (f : Word → Word) : State :=
  { s with dout := f s.dinWord }.accept

/-! ## The clock (R140 to R145) -/

/-- `F = add32(S[15], R1) XOR R2` (R140). -/
def State.fsmOut (s : State) : Word := add32 s.lfsr[15] s.r1 ^^^ s.r2

/-- `Z = F XOR S[0]`, the keystream word of a state (R141). -/
def State.keyWord (s : State) : Word := s.fsmOut ^^^ s.lfsr[0]

/-- `FB = MulAlpha(S[0]) XOR S[2] XOR MulAlphaInv(S[11])` (R142; 90_conflicts.md C1). -/
def State.feedback (s : State) : Word :=
  mulAlpha s.lfsr[0] ^^^ s.lfsr[2] ^^^ mulAlphaInv s.lfsr[11]

/-- NEW: the feedback word, with F fed back in INITMODE (R143; 90_conflicts.md C3). -/
def State.newWord (s : State) (mode : ClockMode) : Word :=
  match mode with
  | .initMode => s.feedback ^^^ s.fsmOut
  | .ksMode => s.feedback

/-- Drop S[0], shift down by one place and append `new` at S[15] (R143). -/
def shiftIn (v : Vector Word 16) (new : Word) : Vector Word 16 :=
  #v[v[1], v[2], v[3], v[4], v[5], v[6], v[7], v[8],
     v[9], v[10], v[11], v[12], v[13], v[14], v[15], new]

/-- `ClockCore(mode)`: one clock of the cipher; every read is of the state before it (R143; 90_conflicts.md C2). -/
def clockCore (mode : ClockMode) (s : State) : State :=
  { s with
    r1 := add32 s.r2 s.lfsr[5]
    r2 := sfsm s.r1
    lfsr := shiftIn s.lfsr (s.newWord mode) }

/-- `KsWord()`: clock in KSMODE, then take Z of the new state (R145; 90_conflicts.md C5). -/
def ksWord (s : State) : Word × State :=
  let t := clockCore .ksMode s
  (t.keyWord, t)

/-! ## The keystream byte source (R190) -/

/-- `NextKsByte()`: the next byte of the keystream, refilling KBUF when KREM = 0 (R190). -/
def nextKsByte (s : State) : Byte × State :=
  if s.krem = 0 then
    let w := ksWord s
    (byteOf 3 w.1, { w.2 with kbuf := w.1, krem := 3 })
  else
    (byteOf (s.krem.toNat - 1) s.kbuf, { s with krem := s.krem - 1 })

/-- Four successive bytes of the keystream, the first one most significant (R63, R194). -/
def nextKsWord (s : State) : Word × State :=
  let k3 := nextKsByte s
  let k2 := nextKsByte k3.2
  let k1 := nextKsByte k2.2
  let k0 := nextKsByte k1.2
  (be32 k3.1 k2.1 k1.1 k0.1, k0.2)

/-! ## Key/IV setup (R166, R170) -/

/-- `Load(klen)`: the whole state change of an accepted SETUP, at once (R166). -/
def load (klen : Nat) (s : State) : State :=
  { s with
    lfsr := Vector.ofFn fun i => mapKey klen s.key i ^^^ mapIV s.iv i
    r1 := 0
    r2 := 0
    kbuf := 0
    krem := 0
    icnt := 0
    phase := .init }

/-- `TICK`, the CORE agent's step: one init clock while PHASE = INIT, READY after the 32nd; a no-op otherwise
(R170). -/
def tick (s : State) : State :=
  match s.phase with
  | .init =>
    { clockCore .initMode s with
      icnt := s.icnt + 1
      phase := if s.icnt.toNat + 1 = Config.initClocks then .ready else .init }
  | .unkeyed => s
  | .ready => s

/-! ## Reset (R250) -/

/-- Reset sets every piece of the block's state to its value of R41 at once. BASE, the host's remaining accesses,
the schedule and the values already read are not state of the block and stay (log 10). -/
def State.resetBlock (s : State) : State :=
  { State.reset with
    base := s.base
    program := s.program
    schedule := s.schedule
    reads := s.reads }

/-! ## The register window (R36 to R38) -/

/-- The register at a byte offset of the window, none where the offset is no register's (R36). -/
def regAt (off : Nat) : Option Reg :=
  match off with
  | 0x00 => some .cmd
  | 0x04 => some .status
  | 0x08 => some .din
  | 0x0C => some .dout
  | 0x10 => some (.key 0)
  | 0x14 => some (.key 1)
  | 0x18 => some (.key 2)
  | 0x1C => some (.key 3)
  | 0x20 => some (.key 4)
  | 0x24 => some (.key 5)
  | 0x28 => some (.key 6)
  | 0x2C => some (.key 7)
  | 0x30 => some (.iv 0)
  | 0x34 => some (.iv 1)
  | 0x38 => some (.iv 2)
  | 0x3C => some (.iv 3)
  | _ => none

/-- The offset of a register in the window (R36). -/
def Reg.offset : Reg → Nat
  | .cmd => 0x00
  | .status => 0x04
  | .din => 0x08
  | .dout => 0x0C
  | .key i => 0x10 + 4 * i.val
  | .iv j => 0x30 + 4 * j.val

/-- The register a bus access reaches, or why the model has no step for it (R64). -/
def State.resolve (s : State) (size : AccessSize) (addr : Nat) : Except Refusal Reg :=
  if size ≠ .word then .error .narrowAccess
  else if addr < s.base ∨ s.base + Config.windowBytes ≤ addr then .error .outsideWindow
  else match regAt (addr - s.base) with
    | some r => .ok r
    | none => .error .misalignedAccess

/-- The 'read returns' column of R36: CMD, KEY and IV read 0 (R37). -/
def State.readReg (s : State) : Reg → Word
  | .cmd => 0
  | .status => s.status
  | .din => s.din
  | .dout => s.dout
  | .key _ => 0
  | .iv _ => 0

/-- The 'write does' column of R36 for every register but CMD, whose write runs a command
(Sys2Proof/Machine/Bus.lean). Writes to STATUS and DOUT are ignored (R38). -/
def State.writeReg (s : State) (v : Word) : Reg → State
  | .cmd => s
  | .status => s
  | .din => { s with din := v }
  | .dout => s
  | .key i => { s with key := s.key.set i v }
  | .iv j => { s with iv := s.iv.set j v }

end Sys2Proof.Machine
end

