-- ==== Sys2Proof/Machine/Control.lean ====
section
/-! DEFINITION. The control command NOP (spec/45_control.md R210). -/

namespace Sys2Proof.Machine

/-- NOP: `ERR <- OK` (R210). -/
def execNop (s : State) : Result := command s State.accept

end Sys2Proof.Machine
end

