-- ==== Sys2Proof/Machine/Setup.lean ====
section
/-! DEFINITION. The SETUP command (spec/43_setup.md R161, R162). -/

namespace Sys2Proof.Machine

/-- SETUP: the key length is checked first, then the IV length; a rejection touches nothing but ERR; an accepted
SETUP loads the cipher state and starts the init sequence (R161, R162, R166). -/
def execSetup (klen ivlen : Nat) (s : State) : Result :=
  command s fun s =>
    if klen ≠ Config.keyBytes128 ∧ klen ≠ Config.keyBytes256 then s.reject .keySize
    else if ivlen ≠ Config.ivBytes then s.reject .ivSize
    else (load klen s).accept

end Sys2Proof.Machine
end

