-- ==== Sys2Proof/Machine/Stream.lean ====
section
/-! DEFINITION. The stream adapter's commands (spec/44_stream.md R192, R194). -/

namespace Sys2Proof.Machine

/-- XORB: `DOUT <- zext_32(DIN[7:0] XOR k)`, `k` the next keystream byte (R192). -/
def execXorb (s : State) : Result :=
  command s fun s =>
    whenKeyed s fun s =>
      let k := nextKsByte s
      { k.2 with dout := zext32 (s.dinByte ^^^ k.1) }.accept

/-- XORW: `DOUT <- DIN XOR be32(k3, k2, k1, k0)`, the next four keystream bytes, at every KREM (R194). -/
def execXorw (s : State) : Result :=
  command s fun s =>
    whenKeyed s fun s =>
      let k := nextKsWord s
      { k.2 with dout := s.dinWord ^^^ k.1 }.accept

end Sys2Proof.Machine
end

