-- ==== Sys2Proof/Machine/TestAccess.lean ====
section
/-! DEFINITION. The test-access commands (spec/40_field_arith.md R107, R108; spec/41_sbox.md R124). -/

namespace Sys2Proof.Machine

/-- MULA: `DOUT <- MulAlpha(DIN)` (R107). -/
def execMula (s : State) : Result := command s fun s => testAccess s mulAlpha

/-- MULAI: `DOUT <- MulAlphaInv(DIN)` (R108). -/
def execMulai (s : State) : Result := command s fun s => testAccess s mulAlphaInv

/-- SBOX: `DOUT <- Sfsm(DIN)` (R124). -/
def execSbox (s : State) : Result := command s fun s => testAccess s sfsm

end Sys2Proof.Machine
end

