-- ==== Sys2Proof/Machine/Dispatch.lean ====
section
/-! DEFINITION. One arm per command (spec/30_encoding.md R85). -/

namespace Sys2Proof.Machine

def exec (i : Instr) (s : State) : Host.Outcome State Fault Refusal :=
  match i with
  | .nop => Sys2Proof.Machine.execNop s
  | .setup klen ivlen => Sys2Proof.Machine.execSetup klen ivlen s
  | .xorb => Sys2Proof.Machine.execXorb s
  | .xorw => Sys2Proof.Machine.execXorw s
  | .mula => Sys2Proof.Machine.execMula s
  | .mulai => Sys2Proof.Machine.execMulai s
  | .sbox => Sys2Proof.Machine.execSbox s

end Sys2Proof.Machine
end

