-- ==== Sys2Proof/Machine/Bus.lean ====
section
/-! DEFINITION. The host's side: command dispatch (spec/30_encoding.md R85), bus accesses (spec/00_scope.md R12,
spec/10_state.md R37, R38, spec/20_memory.md R64), the host operations of spec/30_encoding.md R88 and R89, and
which agent takes a step (spec/00_scope.md R14, spec/70_reset_and_hazards.md R253). -/

namespace Sys2Proof.Machine

/-- `Dispatch(cmd)`: E_BUSY, then E_ILLEGAL, then the command's own rule (R85, R230). -/
def dispatch (w : Word) (s : State) : Result :=
  if s.busy then .next (s.reject .busy)
  else match decode w with
    | .error _ => .next (s.reject .illegal)
    | .ok i => exec i s

/-- `BusWrite`: a write to CMD executes the command, as one step; any other write does what R36 says (R38, R66). -/
def busWrite (r : Reg) (v : Word) (s : State) : Result :=
  match r with
  | .cmd => dispatch v s
  | r => .next (s.writeReg v r)

/-- `BusRead`: the value is an observation of the program, and no register changes (R37, R88, R266). -/
def busRead (r : Reg) (s : State) : State := { s with reads := s.reads ++ [s.readReg r] }

/-- One poll of `wait_ready`: read STATUS; while bit 0 is 1 the operation stays the host's next (R89, R260). -/
def pollReady (rest : List HostOp) (s : State) : State :=
  if s.status.getLsbD 0 then busRead .status s else { busRead .status s with program := rest }

/-- The HOST's step: its next operation in program order (R14, R70). With none left the host does nothing and the
turn passes (log 6). -/
def hostStep (s : State) : Result :=
  match s.program with
  | [] => .next s
  | .waitReady :: rest => .next (pollReady rest s)
  | .rd size addr :: rest =>
    match s.resolve size addr with
    | .error e => .refused e
    | .ok r => .next (busRead r { s with program := rest })
  | .wr size addr v :: rest =>
    match s.resolve size addr with
    | .error e => .refused e
    | .ok r => busWrite r v { s with program := rest }

/-- What happens when the schedule is exhausted (log 3): the host goes on with its accesses, no TICK between them,
except that the CORE ticks while the host waits in `wait_ready` for BUSY to clear, so that the weak fairness of
R253 holds of every run. With no access left the run is over and nothing changes (R266; log 6). -/
def unscheduled (s : State) : Result :=
  match s.program with
  | .waitReady :: _ => if s.busy then .next (tick s) else hostStep s
  | _ => hostStep s

/-- One step of the model: the agent whose turn it is (R14, R250, R253). A second host has no step (R72). -/
def advance (s : State) : Result :=
  match s.schedule with
  | [] => unscheduled s
  | .host :: rest => hostStep { s with schedule := rest }
  | .core :: rest => .next (tick { s with schedule := rest })
  | .reset :: rest => .next { s with schedule := rest }.resetBlock
  | .secondHost :: _ => .refused .secondHost

/-- The state in which the host's next operation, and the next step, is the write of `w` to CMD: how a command
comes to run (R34, R85; log 5). -/
def State.withCommand (s : State) (w : Word) : State :=
  { s with
    program := .wr .word (s.base + Reg.cmd.offset) w :: s.program
    schedule := .host :: s.schedule }

end Sys2Proof.Machine
end

