-- ==== Sys2Proof/Machine/Step.lean ====
section
/-! DEFINITION. The step function and the placing of one command as the next step. -/

namespace Sys2Proof.Machine

/-- One step of the model (spec/00_scope.md R14). -/
def step (s : State) : Host.Outcome State Fault Refusal := advance s

/-- `s` with the command word `w` as the host's next access and the host as the next to move, so that the very
next step runs it (log 5). -/
def State.withFetchWord (s : State) (nbits w : Nat) : State := s.withCommand (Sys2Proof.tableWord nbits w)

end Sys2Proof.Machine
end

