-- ==== Sys2Proof/Safety.lean ====
section
/-! DEFINITION. The terms in which claims about SNOW2_CORE are stated: the invariant of the control state
(spec/10_state.md R28), who moves at a step, the keystream of a state (spec/44_stream.md R191), data fed through
the adapter (R197), and what a host can observe (R40). -/

namespace Sys2Proof.Machine

/-! ## The invariant -/

/-- The control state is consistent: ICNT fits PHASE (R28), no residual byte exists outside READY (R25, R166), and
BASE is 64-byte aligned (R7). -/
structure State.Inv (s : State) : Prop where
  unkeyed_icnt : s.phase = .unkeyed → s.icnt = 0
  init_icnt : s.phase = .init → s.icnt.toNat ≤ 31
  ready_icnt : s.phase = .ready → s.icnt = 32
  no_residual : s.phase ≠ .ready → s.krem = 0
  base_aligned : s.base % 64 = 0

/-! ## Who moves -/

/-- The next step is the HOST's. -/
def State.hostMoves (s : State) : Bool :=
  match s.schedule with
  | .host :: _ => true
  | [] => !(s.busy && s.program.head? == some .waitReady)
  | .core :: _ => false
  | .reset :: _ => false
  | .secondHost :: _ => false

/-- The next step is a TICK of the CORE. -/
def State.coreMoves (s : State) : Bool :=
  match s.schedule with
  | .core :: _ => true
  | [] => s.busy && s.program.head? == some .waitReady
  | .host :: _ => false
  | .reset :: _ => false
  | .secondHost :: _ => false

/-- The next step is a reset. -/
def State.resets (s : State) : Bool := s.schedule.head? == some .reset

/-- The next step is the host's write of `v` to the register `r`. -/
def State.writes (s : State) (r : Reg) (v : Word) : Prop :=
  s.hostMoves = true ∧ s.program.head? = some (.wr .word (s.base + r.offset) v)

/-- `n` steps, stopping at the first that has no next state. -/
def State.run : Nat → State → Result
  | 0, s => .next s
  | n + 1, s =>
    match step s with
    | .next t => State.run n t
    | .fault e => .fault e
    | .refused e => .refused e

/-! ## The keystream of a state -/

/-- The state after an accepted SETUP and its 32 init clocks (R166, R170). -/
def State.afterSetup (s : State) (klen : Nat) : State := tick^[Config.initClocks] (load klen s).accept

/-- The state after `n` keystream bytes have been taken. -/
def State.dropBytes (s : State) (n : Nat) : State := (fun t => (nextKsByte t).2)^[n] s

/-- Byte `n` of the keystream, counted from 0 (R191). -/
def State.ksByteAt (s : State) (n : Nat) : Byte := (nextKsByte (s.dropBytes n)).1

/-- The state after `n` keystream words have been taken. -/
def State.dropWords (s : State) (n : Nat) : State := (fun t => (ksWord t).2)^[n] s

/-- Keystream word `n`, counted from 0 (R145). -/
def State.ksWordAt (s : State) (n : Nat) : Word := (ksWord (s.dropWords n)).1

/-- The same S, R1 and R2. -/
def SameCipher (s t : State) : Prop := s.lfsr = t.lfsr ∧ s.r1 = t.r1 ∧ s.r2 = t.r2

/-- The same keystream position: the same S, R1, R2, KBUF and KREM. -/
def SameStream (s t : State) : Prop := SameCipher s t ∧ s.kbuf = t.kbuf ∧ s.krem = t.krem

/-- SETUP accepts these lengths (R162). -/
abbrev LegalLengths (klen ivlen : Nat) : Prop := (klen = 16 ∨ klen = 32) ∧ ivlen = 16

/-- A command word that neither takes keystream nor is an accepted SETUP: NOP, MULA, MULAI, SBOX, a SETUP with a
wrong length, or an illegal word (R195). -/
def Quiet (w : Word) : Prop :=
  ∀ i, decode w = .ok i →
    i ≠ .xorb ∧ i ≠ .xorw ∧ ∀ klen ivlen, i = .setup klen ivlen → ¬ LegalLengths klen ivlen

/-! ## Data fed through the adapter (R197) -/

/-- One host transaction: a data byte by XORB, four data bytes by XORW, or another command word with some value
in DIN. -/
inductive Chunk where
  | byte (d : Byte)
  | word (d3 d2 d1 d0 : Byte)
  | other (w din : Word)
  deriving DecidableEq, Repr

/-- The data bytes of a transaction, in stream order. -/
def Chunk.data : Chunk → List Byte
  | .byte d => [d]
  | .word d3 d2 d1 d0 => [d3, d2, d1, d0]
  | .other _ _ => []

/-- The command of a transaction takes no keystream unless it carries data. -/
def Chunk.KeepsStream : Chunk → Prop
  | .byte _ => True
  | .word _ _ _ _ => True
  | .other w _ => Quiet w

/-- Write DIN, run the command, read the result bytes from DOUT, first byte most significant (R192, R194). -/
def Chunk.run (c : Chunk) (s : State) : Option (List Byte × State) :=
  match c with
  | .byte d =>
    match exec .xorb { s with din := zext32 d } with
    | .next t => some ([byteOf 0 t.dout], t)
    | .fault _ => none
    | .refused _ => none
  | .word d3 d2 d1 d0 =>
    match exec .xorw { s with din := be32 d3 d2 d1 d0 } with
    | .next t => some ([byteOf 3 t.dout, byteOf 2 t.dout, byteOf 1 t.dout, byteOf 0 t.dout], t)
    | .fault _ => none
    | .refused _ => none
  | .other w din =>
    match dispatch w { s with din := din } with
    | .next t => some ([], t)
    | .fault _ => none
    | .refused _ => none

/-- A sequence of transactions, their result bytes joined in order. -/
def feed : List Chunk → State → Option (List Byte × State)
  | [], s => some ([], s)
  | c :: cs, s =>
    match c.run s with
    | none => none
    | some (out, t) =>
      match feed cs t with
      | none => none
      | some (rest, u) => some (out ++ rest, u)

/-- The data bytes of a sequence of transactions. -/
def feedData (cs : List Chunk) : List Byte := cs.flatMap Chunk.data

/-! ## What a host can observe -/

/-- Two states that differ at most in S, R1, R2 and KBUF, and in these only before the first SETUP (R40, R41). -/
structure SameButHidden (s t : State) : Prop where
  krem : s.krem = t.krem
  phase : s.phase = t.phase
  icnt : s.icnt = t.icnt
  err : s.err = t.err
  din : s.din = t.din
  dout : s.dout = t.dout
  key : s.key = t.key
  iv : s.iv = t.iv
  base : s.base = t.base
  program : s.program = t.program
  schedule : s.schedule = t.schedule
  reads : s.reads = t.reads
  hidden : s.phase ≠ .unkeyed → SameCipher s t ∧ s.kbuf = t.kbuf

/-- Two outcomes of the same kind, with next states that differ at most in hidden state. -/
def SameOutcome : Result → Result → Prop
  | .next s, .next t => SameButHidden s t
  | .refused e, .refused e' => e = e'
  | .fault e, .fault e' => e = e'
  | _, _ => False

/-! ## Format C0 commands -/

/-- What every rule of a Format C0 command says of its encoding and of its first two errors: `word` is its command
word, E_BUSY while INIT, E_ILLEGAL when cmd[31:8] is not 0 (R81, R84, R85). -/
def FormatC0Command (i : Instr) (word : Word) : Prop :=
  decode word = .ok i ∧ encode i = word ∧
  (∀ s : State, s.phase = .init →
    exec i s = .next { s with err := .busy } ∧ dispatch word s = .next { s with err := .busy }) ∧
  (∀ s w, s.phase ≠ .init → opField w = opField word → w >>> 8 ≠ 0 →
    dispatch w s = .next { s with err := .illegal })

end Sys2Proof.Machine
end

