-- ==== Sys2Proof/Certificates/Slice0/Obligations.lean ====
section
/-! DEFINITION. The statements for the provers. Each docstring names the rule of spec/ it formalises. BASE, the
host's program, the schedule and every register are those of an arbitrary state: no statement starts only from
reset unless it says so. -/

open Sys2Proof Sys2Proof.Machine

/-! ## Encoding -/

/-- All 22 rows of 95_test_vectors.md section 2: what each word decodes to, and what dispatch of it answers when
BUSY = 0 where the row names an error. Which reason an illegal word is given is the model's own choice (log 12). -/
def Obligations.TableWordsDecode : Prop :=
  (decode 0x00000000 = .ok .nop ∧
    decode 0x00101001 = .ok (.setup 16 16) ∧
    decode 0x00102001 = .ok (.setup 32 16) ∧
    decode 0x00101801 = .ok (.setup 24 16) ∧
    decode 0x00081001 = .ok (.setup 16 8) ∧
    decode 0x00201001 = .ok (.setup 16 32) ∧
    decode 0x00081801 = .ok (.setup 24 8) ∧
    decode 0x00000001 = .ok (.setup 0 0) ∧
    decode 0x00000002 = .ok .xorb ∧
    decode 0x00000003 = .ok .xorw ∧
    decode 0x00000010 = .ok .mula ∧
    decode 0x00000011 = .ok .mulai ∧
    decode 0x00000012 = .ok .sbox ∧
    decode 0x00000004 = .error .reservedOpcode ∧
    decode 0x000000FF = .error .reservedOpcode ∧
    decode 0x00000013 = .error .reservedOpcode ∧
    decode 0x00000100 = .error .nonzeroOperandBits ∧
    decode 0x00000102 = .error .nonzeroOperandBits ∧
    decode 0x80000010 = .error .nonzeroOperandBits ∧
    decode 0x01101001 = .error .nonzeroReservedBits ∧
    decode 0x01101801 = .error .nonzeroReservedBits ∧
    decode 0x00FFFF01 = .ok (.setup 255 255)) ∧
  (∀ s : State, s.phase ≠ .init →
    (∀ w ∈ [0x00101801, 0x00081801, 0x00000001, 0x00FFFF01],
      dispatch w s = .next { s with err := .keySize }) ∧
    (∀ w ∈ [0x00081001, 0x00201001], dispatch w s = .next { s with err := .ivSize }) ∧
    (∀ w ∈ [0x00000004, 0x000000FF, 0x00000013, 0x00000100, 0x00000102, 0x80000010, 0x01101001, 0x01101801],
      dispatch w s = .next { s with err := .illegal }))

/-- Every well-formed command is read back from its word, with every byte count its fields admit (R80 to R83). -/
def Obligations.DecodeAfterEncode : Prop :=
  ∀ i : Instr, i.WellFormed → decode (encode i) = .ok i

/-- Every legal word is the word of the command it decodes to, which is well-formed: no bit is dropped (R80 to R84). -/
def Obligations.EncodeAfterDecode : Prop :=
  ∀ (w : Word) (i : Instr), decode w = .ok i → i.WellFormed ∧ encode i = w

/-- R83: each row's match and mask, and at most one row matches any word. -/
def Obligations.OpcodeMapSelectsOneRow : Prop :=
  (∀ w : Word, decode w = .ok .nop ↔ w &&& 0xFFFFFFFF = 0x00000000) ∧
  (∀ (w : Word) (klen ivlen : Nat), decode w = .ok (.setup klen ivlen) ↔
    w &&& 0xFF0000FF = 0x00000001 ∧ klen = (w >>> 8 &&& 0xFF).toNat ∧ ivlen = (w >>> 16 &&& 0xFF).toNat) ∧
  (∀ w : Word, decode w = .ok .xorb ↔ w &&& 0xFFFFFFFF = 0x00000002) ∧
  (∀ w : Word, decode w = .ok .xorw ↔ w &&& 0xFFFFFFFF = 0x00000003) ∧
  (∀ w : Word, decode w = .ok .mula ↔ w &&& 0xFFFFFFFF = 0x00000010) ∧
  (∀ w : Word, decode w = .ok .mulai ↔ w &&& 0xFFFFFFFF = 0x00000011) ∧
  (∀ w : Word, decode w = .ok .sbox ↔ w &&& 0xFFFFFFFF = 0x00000012) ∧
  (∀ (w : Word) (r r' : OpcodeRow), r ∈ opcodeMap → r' ∈ opcodeMap →
    r.selects w = true → r'.selects w = true → r = r')

/-- R84: a word is illegal exactly under the three conditions, and an illegal command is rejected with E_ILLEGAL
and changes nothing else (BUSY = 1 is R223's case). -/
def Obligations.IllegalWordsAreRejected : Prop :=
  (∀ w : Word, (∃ e, decode w = .error e) ↔
    (opField w ∉ [0x00, 0x01, 0x02, 0x03, 0x10, 0x11, 0x12]) ∨
    (opField w ∈ [0x00, 0x02, 0x03, 0x10, 0x11, 0x12] ∧ w >>> 8 ≠ 0) ∨
    (opField w = 0x01 ∧ w >>> 24 ≠ 0)) ∧
  (∀ (s : State) (w : Word) (e : Illegal), s.phase ≠ .init → decode w = .error e →
    dispatch w s = .next { s with err := .illegal })

/-! ## Dispatch and errors -/

/-- R85: dispatch is total, with the order E_BUSY, E_ILLEGAL, then the command's own rule. -/
def Obligations.DispatchIsTotal : Prop :=
  ∀ (s : State) (w : Word),
    (∃ t, dispatch w s = .next t) ∧
    (s.phase = .init → dispatch w s = .next { s with err := .busy }) ∧
    (s.phase ≠ .init → (∃ e, decode w = .error e) → dispatch w s = .next { s with err := .illegal }) ∧
    (s.phase ≠ .init → ∀ i, decode w = .ok i → dispatch w s = exec i s)

/-- A write of a command word to CMD runs the decoded command, as one step: after the host's access is taken from
its program, and its turn from the schedule, the step is `exec` of that command (R34, R85). The last clause is the
model's own choice: with the schedule exhausted the host goes on (log 3). -/
def Obligations.StepRunsTheDecodedCommand : Prop :=
  ∀ (s : State) (i : Instr) (w : Word) (rest : List HostOp),
    decode w = .ok i → s.program = .wr .word s.base w :: rest →
    (∀ turns, s.schedule = .host :: turns →
      step s = exec i { s with program := rest, schedule := turns }) ∧
    (s.schedule = [] → step s = exec i { s with program := rest })

/-- R223: while BUSY = 1 every command word is dropped with E_BUSY, the init sequence continues undisturbed, and
writes to DIN, KEY and IV are accepted. -/
def Obligations.BusyRejectsEveryWord : Prop :=
  ∀ s : State, s.phase = .init →
    (∀ w, dispatch w s = .next { s with err := .busy }) ∧
    (∀ i, exec i s = .next { s with err := .busy }) ∧
    tick { s with err := .busy } = { tick s with err := .busy } ∧
    (∀ v, busWrite .din v s = .next { s with din := v }) ∧
    (∀ (i : Fin 8) v, busWrite (.key i) v s = .next { s with key := s.key.set i v }) ∧
    (∀ (j : Fin 4) v, busWrite (.iv j) v s = .next { s with iv := s.iv.set j v })

/-- R230: the first condition in the order E_BUSY, E_ILLEGAL, E_NOTREADY, E_KEYSIZE, E_IVSIZE is the one reported. -/
def Obligations.ErrorPriority : Prop :=
  ∀ (s : State) (w : Word),
    (s.phase = .init → dispatch w s = .next { s with err := .busy }) ∧
    (s.phase ≠ .init →
      ((∃ e, decode w = .error e) → dispatch w s = .next { s with err := .illegal }) ∧
      (decode w = .ok .xorb ∨ decode w = .ok .xorw → s.phase = .unkeyed →
        dispatch w s = .next { s with err := .notReady }) ∧
      (∀ klen ivlen, decode w = .ok (.setup klen ivlen) →
        (klen ≠ 16 ∧ klen ≠ 32 → dispatch w s = .next { s with err := .keySize }) ∧
        (klen = 16 ∨ klen = 32 → ivlen ≠ 16 → dispatch w s = .next { s with err := .ivSize })) ∧
      dispatch 0x00081801 s = .next { s with err := .keySize } ∧
      dispatch 0x01101801 s = .next { s with err := .illegal })

/-- R222: a rejection records its code in ERR and nothing else. -/
def Obligations.RejectionChangesOnlyErr : Prop :=
  ∀ (s t : State) (w : Word), dispatch w s = .next t → t.err ≠ .ok → t = { s with err := t.err }

/-- R220: every command word ends with one of the six codes, the host reads it in STATUS[11:8], and it stays until
the next write to CMD; only a reset (R250) also clears it. -/
def Obligations.ErrChangesOnlyAtCommands : Prop :=
  (∀ (s : State) (w : Word), ∃ t, dispatch w s = .next t ∧ t.status.extractLsb' 8 4 = t.err.code ∧
    t.err.code ∈ [0, 1, 2, 3, 4, 5]) ∧
  (∀ s t : State, step s = .next t → t.err ≠ s.err → s.resets = true ∨ ∃ w, s.writes .cmd w)

/-- R221: the causes of each error code, and that there is no other; R224 and R225 are two of its rows. MULA, MULAI,
SBOX, NOP and SETUP are therefore accepted in UNKEYED. -/
def Obligations.ErrorCauses : Prop :=
  (Err.code .keySize = 1 ∧ Err.code .ivSize = 2 ∧ Err.code .notReady = 3 ∧ Err.code .busy = 4 ∧
    Err.code .illegal = 5) ∧
  (∀ (s t : State) (w : Word), dispatch w s = .next t →
    (t.err = .busy ↔ s.phase = .init) ∧
    (t.err = .illegal ↔ s.phase ≠ .init ∧ ∃ e, decode w = .error e) ∧
    (t.err = .notReady ↔ s.phase = .unkeyed ∧ (decode w = .ok .xorb ∨ decode w = .ok .xorw)) ∧
    (t.err = .keySize ↔ s.phase ≠ .init ∧
      ∃ klen ivlen, decode w = .ok (.setup klen ivlen) ∧ klen ≠ 16 ∧ klen ≠ 32) ∧
    (t.err = .ivSize ↔ s.phase ≠ .init ∧
      ∃ klen ivlen, decode w = .ok (.setup klen ivlen) ∧ (klen = 16 ∨ klen = 32) ∧ ivlen ≠ 16))

/-! ## The commands -/

/-- R210: NOP. -/
def Obligations.NopRule : Prop :=
  FormatC0Command .nop 0x00000000 ∧
  (∀ s : State, s.phase ≠ .init → exec .nop s = .next { s with err := .ok }) ∧
  (∀ s : State, s.phase ≠ .init → dispatch 0x00000100 s = .next { s with err := .illegal }) ∧
  (∀ s : State, s.phase ≠ .init →
    ∃ t u, exec (.setup 24 16) s = .next t ∧ t.err = .keySize ∧ exec .nop t = .next u ∧ u.err.code = 0)

/-- R107: MULA. -/
def Obligations.MulaRule : Prop :=
  FormatC0Command .mula 0x00000010 ∧
  (∀ s : State, s.phase ≠ .init →
    exec .mula s = .next { s with dout := mulAlpha s.din, err := .ok }) ∧
  mulAlpha 0 = 0 ∧ mulAlpha 0x01000000 = 0xE19FCF13 ∧ mulAlpha 0x01000000 = mulA 1 ∧
  mulAlpha 0x00FFFFFF = 0xFFFFFF00 ∧ mulAlpha 0x80000000 = 0x50358897 ∧ mulA 0x80 = 0x50358897

/-- R108: MULAI. -/
def Obligations.MulaiRule : Prop :=
  FormatC0Command .mulai 0x00000011 ∧
  (∀ s : State, s.phase ≠ .init →
    exec .mulai s = .next { s with dout := mulAlphaInv s.din, err := .ok }) ∧
  mulAlphaInv 0 = 0 ∧ mulAlphaInv 0x00000001 = 0x180F40CD ∧ mulAI 1 = 0x180F40CD ∧
  mulAlphaInv 0x00000100 = 0x00000001 ∧ mulAlphaInv 0x12345678 = 0x1F41FB0D ∧
  (∀ s t : State, exec .mula s = .next t → s.phase ≠ .init →
    ∃ u, exec .mulai { t with din := t.dout } = .next u ∧ u.dout = s.din)

/-- R124: SBOX. -/
def Obligations.SboxRule : Prop :=
  FormatC0Command .sbox 0x00000012 ∧
  (∀ s : State, s.phase ≠ .init →
    exec .sbox s = .next { s with dout := sfsm s.din, err := .ok }) ∧
  sfsm 0x00000000 = 0x63636363 ∧ sfsm 0xFFFFFFFF = 0x16161616 ∧ sfsm 0 ≠ 0 ∧
  sfsm 0x00000001 = 0x427C7C5D ∧ sfsm 0x01000000 = 0x5D427C7C

/-- R161 and R162: SETUP's encoding, its errors in order, what it writes when it is accepted, and the first
keystream word of the rule's example. -/
def Obligations.SetupRule : Prop :=
  (∀ w : Word, w &&& 0xFF0000FF = 0x00000001 →
    decode w = .ok (.setup (w.extractLsb' 8 8).toNat (w.extractLsb' 16 8).toNat)) ∧
  decode 0x00101001 = .ok (.setup 16 16) ∧ decode 0x00102001 = .ok (.setup 32 16) ∧
  (∀ (w : Word) (klen ivlen : Nat), decode w = .ok (.setup klen ivlen) → LegalLengths klen ivlen →
    w = 0x00101001 ∨ w = 0x00102001) ∧
  (∀ (s : State) (klen ivlen : Nat), s.phase = .init →
    exec (.setup klen ivlen) s = .next { s with err := .busy }) ∧
  (∀ (s : State) (w : Word), s.phase ≠ .init → opField w = 0x01 → w >>> 24 ≠ 0 →
    dispatch w s = .next { s with err := .illegal }) ∧
  (∀ (s : State) (klen ivlen : Nat), s.phase ≠ .init →
    (klen ≠ 16 ∧ klen ≠ 32 → exec (.setup klen ivlen) s = .next { s with err := .keySize }) ∧
    (klen = 16 ∨ klen = 32 → ivlen ≠ 16 → exec (.setup klen ivlen) s = .next { s with err := .ivSize }) ∧
    (LegalLengths klen ivlen →
      ∃ t, exec (.setup klen ivlen) s = .next t ∧
        t = { s with
          lfsr := t.lfsr, r1 := 0, r2 := 0, kbuf := 0, krem := 0, icnt := 0, phase := .init, err := .ok } ∧
        t.lfsr = (load klen s).lfsr ∧ t.busy = true ∧ t.status = 0x00000003)) ∧
  (∃ t, exec (.setup 16 16) { State.reset with key := #v[0x80000000, 0, 0, 0, 0, 0, 0, 0] } = .next t ∧
    ∃ u, exec .xorw { tick^[32] t with din := 0 } = .next u ∧ u.dout = 0x8D590AE9)

/-- R164, R165 and R166: the load maps of both key sizes, word by word, and that all of the load takes effect at
once and reads KEY and IV only then. -/
def Obligations.SetupLoadsTheCipherState : Prop :=
  (∀ s : State, s.phase ≠ .init →
    exec (.setup 16 16) s = .next
      { s with
        lfsr := #v[~~~s.key[3], ~~~s.key[2], ~~~s.key[1], ~~~s.key[0],
                   s.key[3], s.key[2], s.key[1], s.key[0],
                   ~~~s.key[3], ~~~s.key[2] ^^^ s.iv[3], ~~~s.key[1] ^^^ s.iv[2], ~~~s.key[0],
                   s.key[3] ^^^ s.iv[1], s.key[2], s.key[1], s.key[0] ^^^ s.iv[0]]
        r1 := 0, r2 := 0, kbuf := 0, krem := 0, icnt := 0, phase := .init, err := .ok }) ∧
  (∀ s : State, s.phase ≠ .init →
    exec (.setup 32 16) s = .next
      { s with
        lfsr := #v[~~~s.key[7], ~~~s.key[6], ~~~s.key[5], ~~~s.key[4],
                   ~~~s.key[3], ~~~s.key[2], ~~~s.key[1], ~~~s.key[0],
                   s.key[7], s.key[6] ^^^ s.iv[3], s.key[5] ^^^ s.iv[2], s.key[4],
                   s.key[3] ^^^ s.iv[1], s.key[2], s.key[1], s.key[0] ^^^ s.iv[0]]
        r1 := 0, r2 := 0, kbuf := 0, krem := 0, icnt := 0, phase := .init, err := .ok }) ∧
  (∀ (s : State) (k : Vector Word 8) (v : Vector Word 4) (n : Nat),
    tick^[n] { s with key := k, iv := v } = { tick^[n] s with key := k, iv := v })

/-- R190: the keystream byte source, and that only XORB and XORW in READY call it: in every step of the machine KBUF
and KREM change at these, at an accepted SETUP (R166) and at reset (R250), and nowhere else. -/
def Obligations.NextKsByteRule : Prop :=
  (∀ s : State, s.krem = 0 →
    nextKsByte s =
      (byteOf 3 (clockCore .ksMode s).keyWord,
        { clockCore .ksMode s with kbuf := (clockCore .ksMode s).keyWord, krem := 3 })) ∧
  (∀ s : State, s.krem = 3 → nextKsByte s = (byteOf 2 s.kbuf, { s with krem := 2 })) ∧
  (∀ s : State, s.krem = 2 → nextKsByte s = (byteOf 1 s.kbuf, { s with krem := 1 })) ∧
  (∀ s : State, s.krem = 1 → nextKsByte s = (byteOf 0 s.kbuf, { s with krem := 0 })) ∧
  (∀ s t : State, step s = .next t → t.kbuf ≠ s.kbuf ∨ t.krem ≠ s.krem →
    s.resets = true ∨
    (∃ w, s.writes .cmd w ∧ s.phase ≠ .init ∧
      ((∃ klen ivlen, decode w = .ok (.setup klen ivlen) ∧ LegalLengths klen ivlen) ∨
       (s.phase = .ready ∧ (decode w = .ok .xorb ∨ decode w = .ok .xorw)))))

/-- R192: XORB. -/
def Obligations.XorbRule : Prop :=
  FormatC0Command .xorb 0x00000002 ∧
  (∀ s : State, s.phase = .unkeyed → exec .xorb s = .next { s with err := .notReady }) ∧
  (∀ s : State, s.phase = .ready →
    exec .xorb s = .next
      { (nextKsByte s).2 with
        dout := ((s.din.extractLsb' 0 8 : Byte) ^^^ (nextKsByte s).1).setWidth 32, err := .ok }) ∧
  (∀ s t : State, s.phase = .ready → exec .xorb s = .next t →
    t.krem = s.krem - 1 ∧ t.dout >>> 8 = 0 ∧
    (s.krem = 0 → SameCipher t (clockCore .ksMode s)) ∧
    (s.krem ≠ 0 → SameCipher t s ∧ t.kbuf = s.kbuf) ∧
    (s.din = 0 → t.dout = ((nextKsByte s).1).setWidth 32) ∧
    (∀ d : Word, d.extractLsb' 0 8 = s.din.extractLsb' 0 8 →
      exec .xorb { s with din := d } = .next { t with din := d })) ∧
  (∃ t, exec .xorb { { State.reset with key := #v[0x80000000, 0, 0, 0, 0, 0, 0, 0] }.afterSetup 16 with
        din := 0x11 } = .next t ∧ t.dout = 0x0000009C ∧ t.status = 0x00200034)

/-- R194: XORW. What the rule marks as derived, that it is four XORBs, is `Obligations.XorwIsFourXorbs`. -/
def Obligations.XorwRule : Prop :=
  FormatC0Command .xorw 0x00000003 ∧
  (∀ s : State, s.phase = .unkeyed → exec .xorw s = .next { s with err := .notReady }) ∧
  (∀ s : State, s.phase = .ready →
    ∃ t, exec .xorw s = .next t ∧
      t.dout = s.din ^^^ be32 (s.ksByteAt 0) (s.ksByteAt 1) (s.ksByteAt 2) (s.ksByteAt 3) ∧
      t = { clockCore .ksMode s with
        kbuf := (clockCore .ksMode s).keyWord, dout := t.dout, err := .ok } ∧
      (s.krem = 0 → t.dout = s.din ^^^ (ksWord s).1)) ∧
  (∃ t, exec .xorw ({ State.reset with key := #v[0x80000000, 0, 0, 0, 0, 0, 0, 0] }.afterSetup 16) = .next t ∧
    t.dout = 0x8D590AE9) ∧
  (∃ t, exec .xorw (({ State.reset with key := #v[0x80000000, 0, 0, 0, 0, 0, 0, 0] }.afterSetup 16).dropBytes 3) =
      .next t ∧ t.dout = 0xE9A74A7D)

/-! ## Frames -/

/-- NOP changes ERR only; MULA, MULAI and SBOX change DOUT and ERR only (R210, R107, R108, R124). -/
def Obligations.TestAccessFrame : Prop :=
  ∀ s t : State,
    (exec .nop s = .next t → t = { s with err := t.err }) ∧
    (∀ i, i = .mula ∨ i = .mulai ∨ i = .sbox → exec i s = .next t →
      t = { s with dout := t.dout, err := t.err })

/-- XORB and XORW change the keystream position, DOUT and ERR only, and nothing but ERR outside READY; XORB leaves
S, R1, R2 and KBUF alone while KREM is not 0 (R192, R194). -/
def Obligations.StreamFrame : Prop :=
  ∀ (s t : State) (i : Instr), i = .xorb ∨ i = .xorw → exec i s = .next t →
    t = { s with
      lfsr := t.lfsr, r1 := t.r1, r2 := t.r2, kbuf := t.kbuf, krem := t.krem, dout := t.dout, err := t.err } ∧
    (s.phase ≠ .ready → t = { s with err := t.err }) ∧
    (i = .xorb → s.krem ≠ 0 → SameCipher t s ∧ t.kbuf = s.kbuf) ∧
    (i = .xorw → t.krem = s.krem)

/-- SETUP leaves DIN, DOUT, KEY and IV alone, and everything but ERR when it is rejected (R161, R162). -/
def Obligations.SetupFrame : Prop :=
  ∀ (s t : State) (klen ivlen : Nat), exec (.setup klen ivlen) s = .next t →
    t = { s with
      lfsr := t.lfsr, r1 := t.r1, r2 := t.r2, kbuf := t.kbuf, krem := t.krem, icnt := t.icnt,
      phase := t.phase, err := t.err } ∧
    (s.phase = .init ∨ ¬ LegalLengths klen ivlen → t = { s with err := t.err } ∧ t.err ≠ .ok)

/-! ## Arithmetic -/

/-- R10: gmul8 is the product as polynomials over GF(2), bit `i` the coefficient of x^i (R100), reduced modulo P,
for both polynomials in use, and xtime is gmul8 by 0x02. -/
def Obligations.GmulIsThePolynomialProduct : Prop :=
  let poly (n : Nat) (v : BitVec n) : Polynomial (ZMod 2) :=
    ∑ i ∈ Finset.range n, if v.getLsbD i then Polynomial.X ^ i else 0
  ∀ (a b : Byte) (p : BitVec 9), p = 0x1A9 ∨ p = 0x11B →
    (∃ q, poly 8 a * poly 8 b = poly 9 p * q + poly 8 (gmul8 a b p)) ∧ xtime a p = gmul8 a 0x02 p

/-- The coefficient bytes of R101 are the powers of beta it names; beta has order 255 (R100: its 255th power is 1,
and none of the powers 85, 51 and 15 is, 255 being 3·5·17); and the word of alpha^-1 is alpha's inverse. -/
def Obligations.AlphaConstants : Prop :=
  let beta (n : Nat) : Byte := (fun b => gmul8 b 0x02 0x1A9)^[n] 1
  beta 23 = 0xE1 ∧ beta 245 = 0x9F ∧ beta 48 = 0xCF ∧ beta 239 = 0x13 ∧
  beta 16 = 0x18 ∧ beta 39 = 0x0F ∧ beta 6 = 0x40 ∧ beta 64 = 0xCD ∧
  beta 255 = 1 ∧ beta 85 ≠ 1 ∧ beta 51 ≠ 1 ∧ beta 15 ≠ 1 ∧
  gf32Mul alphaInv alpha = 1

/-- MULA's and MULAI's functions are the field products alpha·w and alpha^-1·w of R101 (the remarks of R102 and R105
that the spec marks as derived). -/
def Obligations.MultipliersAreFieldProducts : Prop :=
  ∀ w : Word, mulAlpha w = gf32Mul alpha w ∧ mulAlphaInv w = gf32Mul alphaInv w

/-- The laws of the two multipliers (R106, which the spec marks as derived). -/
def Obligations.MultiplierLaws : Prop :=
  (∀ w, mulAlphaInv (mulAlpha w) = w ∧ mulAlpha (mulAlphaInv w) = w) ∧
  Function.Bijective mulAlpha ∧ Function.Bijective mulAlphaInv ∧
  (∀ a b, mulAlpha (a ^^^ b) = mulAlpha a ^^^ mulAlpha b) ∧
  (∀ a b, mulAlphaInv (a ^^^ b) = mulAlphaInv a ^^^ mulAlphaInv b) ∧
  mulAlpha 0 = 0 ∧ mulAlphaInv 0 = 0 ∧
  (∀ c : Byte, mulA c = mulAlpha (c.setWidth 32 <<< 24) ∧ mulAI c = mulAlphaInv (c.setWidth 32)) ∧
  (∀ w, byteOf 3 w = 0 → mulAlpha w = w <<< 8) ∧
  (∀ w, byteOf 0 w = 0 → mulAlphaInv w = w >>> 8)

/-- The four combined tables give the same FSM substitution (R125, which the spec marks as derived). -/
def Obligations.SubstitutionByCombinedTables : Prop :=
  (∀ w, sfsm w =
    tTable0 (byteOf 0 w) ^^^ tTable1 (byteOf 1 w) ^^^ tTable2 (byteOf 2 w) ^^^ tTable3 (byteOf 3 w)) ∧
  (∀ a : Byte,
    tTable0 a = be32 (gmul8 (sbox8 a) 3 0x11B) (sbox8 a) (sbox8 a) (gmul8 (sbox8 a) 2 0x11B) ∧
    tTable1 a = be32 (sbox8 a) (sbox8 a) (gmul8 (sbox8 a) 2 0x11B) (gmul8 (sbox8 a) 3 0x11B) ∧
    tTable2 a = be32 (sbox8 a) (gmul8 (sbox8 a) 2 0x11B) (gmul8 (sbox8 a) 3 0x11B) (sbox8 a) ∧
    tTable3 a = be32 (gmul8 (sbox8 a) 2 0x11B) (gmul8 (sbox8 a) 3 0x11B) (sbox8 a) (sbox8 a)) ∧
  tTable0 0 = 0xA56363C6 ∧ tTable0 1 = 0x847C7CF8

/-! ## The clock -/

/-- R143: one clock, what it writes and what it leaves, its example, and that it is a bijection of the cipher state
in each mode. -/
def Obligations.ClockCoreRule : Prop :=
  (∀ (s : State) (mode : ClockMode),
    let f := s.lfsr[15] + s.r1 ^^^ s.r2
    let fb := mulAlpha s.lfsr[0] ^^^ s.lfsr[2] ^^^ mulAlphaInv s.lfsr[11]
    let t := clockCore mode s
    t = { s with lfsr := t.lfsr, r1 := s.r2 + s.lfsr[5], r2 := sfsm s.r1 } ∧
    (∀ (i : Nat) (h : i < 15), t.lfsr[i] = s.lfsr[i + 1]) ∧
    (mode = .initMode → t.lfsr[15] = fb ^^^ f) ∧
    (mode = .ksMode → t.lfsr[15] = fb)) ∧
  (∀ (s : State) (mode : ClockMode), s.lfsr = Vector.replicate 16 0 → s.r1 = 0 → s.r2 = 0 →
    clockCore mode s = { s with r2 := 0x63636363 }) ∧
  (∀ mode : ClockMode, Function.Bijective fun x : Vector Word 16 × Word × Word =>
    let t := clockCore mode { State.reset with lfsr := x.1, r1 := x.2.1, r2 := x.2.2 }
    (t.lfsr, t.r1, t.r2))

/-- R142: under keystream clocks the LFSR runs through the recurrence
s_(t+16) = alpha·s_t XOR s_(t+2) XOR alpha^-1·s_(t+11). -/
def Obligations.LfsrRecurrence : Prop :=
  ∀ s : State,
    s.feedback = mulAlpha s.lfsr[0] ^^^ s.lfsr[2] ^^^ mulAlphaInv s.lfsr[11] ∧
    ∃ seq : Nat → Word,
      (∀ n (i : Fin 16), ((clockCore .ksMode)^[n] s).lfsr[i] = seq (n + i.val)) ∧
      (∀ t, seq (t + 16) = mulAlpha (seq t) ^^^ seq (t + 2) ^^^ mulAlphaInv (seq (t + 11)))

/-- The reading that outputs before each clock, after one extra clock without output, gives the same words (R146,
which the spec marks as derived). -/
def Obligations.OutputBeforeClockReading : Prop :=
  ∀ (s : State) (n : Nat),
    s.ksWordAt n = ((clockCore .ksMode)^[n] (clockCore .ksMode s)).keyWord

/-- R170: TICK, in INIT and outside it, and the example of the rule. -/
def Obligations.TickRule : Prop :=
  (∀ s : State, s.phase ≠ .init → tick s = s) ∧
  (∀ s : State, s.phase = .init →
    tick s = { clockCore .initMode s with
      icnt := s.icnt + 1, phase := if s.icnt = 31 then .ready else .init }) ∧
  (∀ s t : State, ∀ klen, LegalLengths klen 16 → s.phase ≠ .init → exec (.setup klen 16) s = .next t →
    (∀ n, n < 32 → (tick^[n] t).phase = .init) ∧ (tick^[32] t).phase = .ready) ∧
  (∀ t : State, t = { State.reset with key := #v[0x80000000, 0, 0, 0, 0, 0, 0, 0] }.afterSetup 16 →
    t.lfsr[0] = 0x816B058A ∧ t.lfsr[15] = 0x494AA350 ∧ t.r1 = 0x368A1B02 ∧ t.r2 = 0x3B1B2B09 ∧
    t.status = 0x00200004)

/-- An accepted SETUP keeps BUSY for exactly 32 TICKs, counted in ICNT; then the block is READY with ICNT = 32 and
KREM = 0, and the first XORW returns the word of the 33rd clock (R171, R254, R260). -/
def Obligations.InitTakesThirtyTwoTicks : Prop :=
  ∀ (s t : State) (klen : Nat), s.phase ≠ .init → LegalLengths klen 16 → exec (.setup klen 16) s = .next t →
    (∀ n, n < 32 → (tick^[n] t).busy = true ∧ (tick^[n] t).icnt = BitVec.ofNat 6 n ∧
      SameCipher (tick^[n] t) ((clockCore .initMode)^[n] t)) ∧
    (tick^[32] t).phase = .ready ∧ (tick^[32] t).icnt = 32 ∧ (tick^[32] t).krem = 0 ∧
    SameCipher (tick^[32] t) ((clockCore .initMode)^[32] t) ∧
    ∃ u, exec .xorw (tick^[32] t) = .next u ∧
      u.dout = s.din ^^^ (clockCore .ksMode ((clockCore .initMode)^[32] t)).keyWord

/-! ## The stream -/

/-- Byte `n` of the stream, and that the cipher is clocked at bytes 0, 4, 8, … and no other (R191, which the spec
marks as derived). -/
def Obligations.ByteStreamIsTheWordStream : Prop :=
  ∀ s : State, s.krem = 0 → ∀ n : Nat,
    s.ksByteAt n = byteOf (3 - n % 4) (s.ksWordAt (n / 4)) ∧
    SameCipher (s.dropBytes n) ((clockCore .ksMode)^[(n + 3) / 4] s)

/-- R195, which the spec marks as derived: NOP, MULA, MULAI, SBOX, a rejected SETUP and an illegal word leave the keystream position where it was,
and so does every rejected command. -/
def Obligations.QuietCommandsKeepTheStream : Prop :=
  (∀ (s t : State) (w : Word), Quiet w → dispatch w s = .next t → SameStream t s ∧ t.phase = s.phase) ∧
  (∀ (s t : State) (w : Word), dispatch w s = .next t → t.err ≠ .ok → SameStream t s ∧ t.phase = s.phase) ∧
  Quiet 0x00000000 ∧ Quiet 0x00000010 ∧ Quiet 0x00000011 ∧ Quiet 0x00000012

/-- R197, which the spec marks as derived: however data is split into XORB and XORW, and whatever quiet commands stand between, result byte `n` is
data byte `n` XOR byte `n` of the stream. -/
def Obligations.ChunkingInvariance : Prop :=
  ∀ (s : State) (cs : List Chunk), s.phase = .ready → (∀ c ∈ cs, c.KeepsStream) →
    ∃ out t, feed cs s = some (out, t) ∧
      out = (feedData cs).mapIdx (fun n d => d ^^^ s.ksByteAt n) ∧
      t.phase = .ready ∧ SameStream t (s.dropBytes (feedData cs).length)

/-- R196, which the spec marks as derived: two instances set up with the same key and IV: what one encrypts the other decrypts, for every length and
every split on either side. -/
def Obligations.RoundTrip : Prop :=
  ∀ (s t s1 t1 : State) (klen : Nat), s.phase ≠ .init → t.phase ≠ .init → LegalLengths klen 16 →
    s.key = t.key → s.iv = t.iv →
    exec (.setup klen 16) s = .next s1 → exec (.setup klen 16) t = .next t1 →
    ∀ cs cs' : List Chunk, (∀ c ∈ cs, c.KeepsStream) → (∀ c ∈ cs', c.KeepsStream) →
      ∃ out s2 t2, feed cs (tick^[32] s1) = some (out, s2) ∧
        (feedData cs' = out → feed cs' (tick^[32] t1) = some (feedData cs, t2))

/-- R147, which the spec marks as derived: the keystream is a function of the key and IV alone: whatever else the two states hold, and, for a
16-byte key, whatever KEY[4..7] hold (R163), every keystream word and the keystream position agree. -/
def Obligations.KeystreamDependsOnKeyAndIvAlone : Prop :=
  ∀ (s t s1 t1 : State) (klen : Nat), s.phase ≠ .init → t.phase ≠ .init → LegalLengths klen 16 →
    (∀ i : Fin 8, i.val < 4 ∨ klen = 32 → s.key[i] = t.key[i]) → s.iv = t.iv →
    exec (.setup klen 16) s = .next s1 → exec (.setup klen 16) t = .next t1 →
    SameStream (tick^[32] s1) (tick^[32] t1) ∧
    ∀ n, (tick^[32] s1).ksWordAt n = (tick^[32] t1).ksWordAt n

/-- The two known-answer vectors of 95_test_vectors.md section 1.1, and two TICKs of section 5.1. -/
def Obligations.KnownAnswers : Prop :=
  (∀ v1 : State, v1 = { State.reset with key := #v[0x80000000, 0, 0, 0, 0, 0, 0, 0] } →
    (tick^[2] (load 16 v1)).lfsr[15] = 0xD5EF397E ∧
    (List.range 5).map (v1.afterSetup 16).ksWordAt =
      [0x8D590AE9, 0xA74A7D05, 0x6DC9CA74, 0xB72D1A45, 0x99B0A083]) ∧
  (∀ v2 : State, v2 = { State.reset with key := #v[0x80000000, 0, 0, 0, 0, 0, 0, 0], iv := #v[1, 2, 3, 4] } →
    (List.range 5).map (v2.afterSetup 32).ksWordAt =
      [0x7861080D, 0x5755E90B, 0x736F1091, 0x6ED519B1, 0x2C1A3A42])

/-! ## The register window -/

/-- R35: the fields of STATUS, and that its other bits are 0. -/
def Obligations.StatusLayout : Prop :=
  ∀ s : State,
    s.status.extractLsb' 0 1 = (if s.phase = .init then 1 else 0) ∧
    s.status.extractLsb' 1 2 = s.phase.code ∧
    s.status.extractLsb' 3 1 = 0 ∧
    s.status.extractLsb' 4 2 = s.krem ∧
    s.status.extractLsb' 6 2 = 0 ∧
    s.status.extractLsb' 8 4 = s.err.code ∧
    s.status.extractLsb' 12 4 = 0 ∧
    s.status.extractLsb' 16 6 = s.icnt ∧
    s.status.extractLsb' 22 10 = 0

/-- R37: a read returns the register's column of R36 and changes no state but the program's own record of values
read. -/
def Obligations.ReadReturnsTheRegister : Prop :=
  ∀ (s : State) (r : Reg) (rest : List HostOp) (turns : List Turn),
    s.program = .rd .word (s.base + r.offset) :: rest → s.schedule = .host :: turns →
    ∃ v, step s = .next { s with program := rest, schedule := turns, reads := s.reads ++ [v] } ∧
      (r = .status → v = s.status) ∧ (r = .din → v = s.din) ∧ (r = .dout → v = s.dout) ∧
      (r = .cmd → v = 0) ∧ (∀ i, r = .key i → v = 0) ∧ (∀ j, r = .iv j → v = 0)

/-- R38: a write does what its column of R36 says, in every phase. -/
def Obligations.WriteDoesItsColumn : Prop :=
  ∀ (s : State) (r : Reg) (v : Word) (rest : List HostOp) (turns : List Turn),
    s.program = .wr .word (s.base + r.offset) v :: rest → s.schedule = .host :: turns →
    let t := { s with program := rest, schedule := turns }
    (r = .cmd → step s = dispatch v t) ∧
    (r = .status ∨ r = .dout → step s = .next t) ∧
    (r = .din → step s = .next { t with din := v }) ∧
    (∀ i, r = .key i → step s = .next { t with key := t.key.set i v }) ∧
    (∀ j, r = .iv j → step s = .next { t with iv := t.iv.set j v })

/-- The offset column of R36, all sixteen rows, and that an access reaches a register at these offsets and at no
other: every offset below 64 that is a multiple of 4 is one of them. -/
def Obligations.WindowMap : Prop :=
  (∀ off : Nat, regAt off =
    if off = 0x00 then some .cmd
    else if off = 0x04 then some .status
    else if off = 0x08 then some .din
    else if off = 0x0C then some .dout
    else if off = 0x10 then some (.key 0)
    else if off = 0x14 then some (.key 1)
    else if off = 0x18 then some (.key 2)
    else if off = 0x1C then some (.key 3)
    else if off = 0x20 then some (.key 4)
    else if off = 0x24 then some (.key 5)
    else if off = 0x28 then some (.key 6)
    else if off = 0x2C then some (.key 7)
    else if off = 0x30 then some (.iv 0)
    else if off = 0x34 then some (.iv 1)
    else if off = 0x38 then some (.iv 2)
    else if off = 0x3C then some (.iv 3)
    else none) ∧
  (∀ off : Nat, (∃ r, regAt off = some r) ↔ off < 64 ∧ off % 4 = 0) ∧
  (∀ (off : Nat) (r : Reg), regAt off = some r ↔ r.offset = off)

/-- An access that is narrow, misaligned or outside the window has no step, and every other has one (R64). Which name
the refusal has, and that narrow comes before outside and outside before misaligned, is the model's (log 7). -/
def Obligations.UndefinedAccessesAreRefused : Prop :=
  ∀ (s : State) (size : AccessSize) (addr : Nat) (v : Word) (rest : List HostOp) (turns : List Turn),
    s.schedule = .host :: turns →
    s.program = .rd size addr :: rest ∨ s.program = .wr size addr v :: rest →
    (size ≠ .word → step s = .refused .narrowAccess) ∧
    (size = .word → addr < s.base ∨ s.base + 64 ≤ addr → step s = .refused .outsideWindow) ∧
    (size = .word → s.base ≤ addr → addr < s.base + 64 → (addr - s.base) % 4 ≠ 0 →
      step s = .refused .misalignedAccess) ∧
    (size = .word → s.base ≤ addr → addr < s.base + 64 → (addr - s.base) % 4 = 0 → ∃ t, step s = .next t)

/-- A second host has no step (R72). -/
def Obligations.SecondHostIsRefused : Prop :=
  ∀ (s : State) (turns : List Turn), s.schedule = .secondHost :: turns → step s = .refused .secondHost

/-- No read distinguishes two states that agree in STATUS's fields, DIN and DOUT: S, R1, R2, KBUF, KEY and IV are
readable by no agent (R40, R234). -/
def Obligations.ReadsRevealOnlyTheWindow : Prop :=
  ∀ (s t : State) (r : Reg),
    s.phase = t.phase → s.krem = t.krem → s.icnt = t.icnt → s.err = t.err → s.din = t.din → s.dout = t.dout →
    s.readReg r = t.readReg r

/-! ## The whole machine -/

/-- Every step keeps the invariant: ICNT fits PHASE, no residual byte exists outside READY, BASE stays aligned
(R28, R25, R7). -/
def Obligations.StepKeepsInv : Prop :=
  ∀ s t : State, s.Inv → step s = .next t → t.Inv

/-- The machine after reset meets the invariant. -/
def Obligations.ResetHasInv : Prop := State.reset.Inv

/-- R26: PHASE's encodings, and its transitions: reset, a successful SETUP, the 32nd init TICK, and no other. -/
def Obligations.PhaseTransitions : Prop :=
  (Phase.code .unkeyed = 0 ∧ Phase.code .init = 1 ∧ Phase.code .ready = 2) ∧
  (∀ s t : State, s.resets = true → step s = .next t → t.phase = .unkeyed) ∧
  (∀ (s : State) (klen : Nat), s.phase ≠ .init → LegalLengths klen 16 →
    ∃ t, exec (.setup klen 16) s = .next t ∧ t.phase = .init) ∧
  (∀ s : State, s.phase = .init → s.icnt = 31 → (tick s).phase = .ready) ∧
  (∀ s t : State, step s = .next t → t.phase ≠ s.phase →
    (s.resets = true ∧ t.phase = .unkeyed) ∨
    (t.phase = .init ∧ ∃ w klen ivlen, s.writes .cmd w ∧ decode w = .ok (.setup klen ivlen) ∧
      LegalLengths klen ivlen) ∨
    (s.phase = .init ∧ t.phase = .ready ∧ s.coreMoves = true ∧ s.icnt = 31))

/-- What writes the cipher and sequencer state, in every step: S, R1 and R2 reset, an init TICK, a successful SETUP,
and XORB or XORW in READY (R22, R24); KBUF and KREM the same but for the TICK (R25, R190); ICNT reset, an init TICK
and a successful SETUP (R28). -/
def Obligations.CipherStateWriters : Prop :=
  ∀ s t : State, step s = .next t →
    let setsUp := ∃ w, s.writes .cmd w ∧ s.phase ≠ .init ∧
      ∃ klen ivlen, decode w = .ok (.setup klen ivlen) ∧ LegalLengths klen ivlen
    let takesKeystream := ∃ w, s.writes .cmd w ∧ s.phase = .ready ∧ (decode w = .ok .xorb ∨ decode w = .ok .xorw)
    let initTick := s.coreMoves = true ∧ s.phase = .init
    (¬ SameCipher t s → s.resets = true ∨ initTick ∨ setsUp ∨ takesKeystream) ∧
    (t.kbuf ≠ s.kbuf ∨ t.krem ≠ s.krem → s.resets = true ∨ setsUp ∨ takesKeystream) ∧
    (t.icnt ≠ s.icnt → s.resets = true ∨ initTick ∨ setsUp)

/-- R31: XORB, XORW, MULA, MULAI and SBOX write their result to DOUT when they succeed; nothing else but reset
(R41) writes it, no write of the host to DOUT either. -/
def Obligations.DoutWriters : Prop :=
  (∀ s t : State, t.err = .ok →
    (exec .xorb s = .next t → t.dout = zext32 (byteOf 0 s.din ^^^ (nextKsByte s).1)) ∧
    (exec .xorw s = .next t → t.dout = s.din ^^^ (nextKsWord s).1) ∧
    (exec .mula s = .next t → t.dout = mulAlpha s.din) ∧
    (exec .mulai s = .next t → t.dout = mulAlphaInv s.din) ∧
    (exec .sbox s = .next t → t.dout = sfsm s.din)) ∧
  (∀ s t : State, step s = .next t → t.dout ≠ s.dout →
    s.resets = true ∨
    (∃ w i, s.writes .cmd w ∧ decode w = .ok i ∧ t.err = .ok ∧
      (i = .xorb ∨ i = .xorw ∨ i = .mula ∨ i = .mulai ∨ i = .sbox)))

/-- DIN, KEY and IV are written only by the host's writes to them and by reset; no command and no TICK writes them
(R30, R32, R33). -/
def Obligations.OperandRegisterWriters : Prop :=
  ∀ s t : State, step s = .next t → s.resets = false →
    (t.din = s.din ∨ ∃ v, s.writes .din v ∧ t.din = v) ∧
    (∀ i : Fin 8, t.key[i] = s.key[i] ∨ ∃ v, s.writes (.key i) v ∧ t.key[i] = v) ∧
    (∀ j : Fin 4, t.iv[j] = s.iv[j] ∨ ∃ v, s.writes (.iv j) v ∧ t.iv[j] = v)

/-- R41: the reset value of every piece of state. What the rule marks as derived from this table is
`Obligations.ResetObservations`. -/
def Obligations.ResetValues : Prop :=
  (∀ i : Fin 16, State.reset.lfsr[i] = 0) ∧ State.reset.r1 = 0 ∧ State.reset.r2 = 0 ∧
  State.reset.kbuf = 0 ∧ State.reset.krem = 0 ∧ State.reset.phase = .unkeyed ∧ State.reset.busy = false ∧
  State.reset.icnt = 0 ∧ State.reset.err = .ok ∧ State.reset.din = 0 ∧ State.reset.dout = 0 ∧
  (∀ i : Fin 8, State.reset.key[i] = 0) ∧ (∀ j : Fin 4, State.reset.iv[j] = 0)

/-- R250: reset is one step; from any state, whatever was under way, it leaves every register at its value of R41;
no TICK changes anything afterwards and no keystream is available. -/
def Obligations.ResetStep : Prop :=
  ∀ (s : State) (turns : List Turn), s.schedule = .reset :: turns →
    ∃ t, step s = .next t ∧
      t = { State.reset with base := t.base, program := t.program, schedule := t.schedule, reads := t.reads } ∧
      t.phase = .unkeyed ∧ t.busy = false ∧ t.err = .ok ∧ t.status = 0 ∧ (∀ n, tick^[n] t = t) ∧
      exec .xorb t = .next { t with err := .notReady } ∧ exec .xorw t = .next { t with err := .notReady }

/-- No step writes BASE; a step takes at most the first access from the host's program, at most the first turn from
the schedule, and only adds to the values read. That a reset does not touch them is the model's reading (log 10). -/
def Obligations.EnvironmentFrame : Prop :=
  ∀ s t : State, step s = .next t →
    t.base = s.base ∧ t.schedule = s.schedule.tail ∧
    (t.program = s.program ∨ (s.hostMoves = true ∧ t.program = s.program.tail)) ∧
    (t.reads = s.reads ∨ (s.hostMoves = true ∧ ∃ v, t.reads = s.reads ++ [v]))

/-- Before the first SETUP the values of S, R1, R2 and KBUF cannot be observed: two runs that differ only in them
take the same steps, read the same values, and agree in everything once a SETUP is accepted (R41, R40). -/
def Obligations.HiddenStateIsUnobservable : Prop :=
  ∀ (s t : State) (n : Nat), SameButHidden s t → SameOutcome (s.run n) (t.run n)

/-- Weak fairness of TICK while INIT makes every wait_ready of a block in INIT end, whatever accesses follow it (R253,
R260). First clause: under every schedule of HOST and CORE turns with as many TICKs in it as are missing, and a host
turn after them, whatever turns follow. Second clause: where the schedule says nothing more, by the model's own rule
for an exhausted schedule (a DESIGN CHOICE, log 3). -/
def Obligations.WaitReadyEnds : Prop :=
  ∀ (s : State) (rest : List HostOp), s.Inv → s.phase = .init → s.program = .waitReady :: rest →
    (∀ turns more : List Turn, s.schedule = turns ++ .host :: more →
      (∀ x ∈ turns, x = .host ∨ x = .core) → 32 - s.icnt.toNat ≤ turns.count .core →
      ∃ k t, k ≤ turns.length + 1 ∧ s.run k = .next t ∧ t.program = rest ∧ t.phase = .ready ∧ t.icnt = 32 ∧
        t.krem = 0 ∧ t.reads.getLast? = some t.status ∧ (s.err = .ok → t.status = 0x00200004)) ∧
    (s.schedule = [] →
      ∃ t, s.run (32 - s.icnt.toNat + 1) = .next t ∧ t.program = rest ∧ t.phase = .ready ∧ t.icnt = 32 ∧
        t.krem = 0 ∧ t.reads = s.reads ++ [t.status] ∧ (s.err = .ok → t.status = 0x00200004))

/-- XORW is the same as four XORBs on the bytes of DIN from byte 3 down, with the four result bytes packed
big-endian, at every KREM: what R194 marks as derived from R190 and R192. -/
def Obligations.XorwIsFourXorbs : Prop :=
  ∀ s : State, s.phase = .ready →
    ∃ t a b c d,
      exec .xorw s = .next t ∧
      exec .xorb { s with din := zext32 (byteOf 3 s.din) } = .next a ∧
      exec .xorb { a with din := zext32 (byteOf 2 s.din) } = .next b ∧
      exec .xorb { b with din := zext32 (byteOf 1 s.din) } = .next c ∧
      exec .xorb { c with din := zext32 (byteOf 0 s.din) } = .next d ∧
      t.dout = be32 (byteOf 0 a.dout) (byteOf 0 b.dout) (byteOf 0 c.dout) (byteOf 0 d.dout) ∧
      t = { d with din := s.din, dout := t.dout }

/-- What R41 marks as derived from its table: STATUS reads 0 after reset, and S, R1, R2 and KBUF could hold any value
there without changing an observation, whatever the host and the schedule do next. -/
def Obligations.ResetObservations : Prop :=
  State.reset.status = 0x00000000 ∧
  (∀ (s : State) (v : Vector Word 16) (a b c : Word) (n : Nat),
    SameOutcome (s.resetBlock.run n) ({ s.resetBlock with lfsr := v, r1 := a, r2 := b, kbuf := c }.run n))
end

