-- ==== Sys2Proof/Laws/Field.lean ====
section
/-! SUPPORT. The byte fields: gmul8 is additive in both factors, and byte_k and be32 are inverse to each other
(spec/00_scope.md R8 to R10). -/

namespace Sys2Proof.Machine

/-! ## Bytes of words -/

@[simp] theorem byteOf_be32_3 (b3 b2 b1 b0 : Byte) : byteOf 3 (be32 b3 b2 b1 b0) = b3 := by
  ext i hi
  simp [byteOf, be32, zext32]
  grind

@[simp] theorem byteOf_be32_2 (b3 b2 b1 b0 : Byte) : byteOf 2 (be32 b3 b2 b1 b0) = b2 := by
  ext i hi
  simp [byteOf, be32, zext32]
  grind

@[simp] theorem byteOf_be32_1 (b3 b2 b1 b0 : Byte) : byteOf 1 (be32 b3 b2 b1 b0) = b1 := by
  ext i hi
  simp [byteOf, be32, zext32]
  grind

@[simp] theorem byteOf_be32_0 (b3 b2 b1 b0 : Byte) : byteOf 0 (be32 b3 b2 b1 b0) = b0 := by
  ext i hi
  simp [byteOf, be32, zext32]
  grind

/-- A word is the big-endian assembly of its four bytes. -/
theorem be32_byteOf (w : Word) : be32 (byteOf 3 w) (byteOf 2 w) (byteOf 1 w) (byteOf 0 w) = w := by
  ext i hi
  simp [byteOf, be32, zext32]
  grind

@[simp] theorem byteOf_xor (k : Nat) (u v : Word) : byteOf k (u ^^^ v) = byteOf k u ^^^ byteOf k v := by
  ext i hi
  simp [byteOf]

/-- Two words with the same four bytes are equal. -/
theorem word_ext {u v : Word} (h3 : byteOf 3 u = byteOf 3 v) (h2 : byteOf 2 u = byteOf 2 v)
    (h1 : byteOf 1 u = byteOf 1 v) (h0 : byteOf 0 u = byteOf 0 v) : u = v := by
  rw [← be32_byteOf u, ← be32_byteOf v, h3, h2, h1, h0]

theorem be32_xor (a3 a2 a1 a0 b3 b2 b1 b0 : Byte) :
    be32 (a3 ^^^ b3) (a2 ^^^ b2) (a1 ^^^ b1) (a0 ^^^ b0) = be32 a3 a2 a1 a0 ^^^ be32 b3 b2 b1 b0 := by
  apply word_ext <;> simp

/-! ## gmul8 is additive in both factors -/

theorem xtime_xor (a b : Byte) (p : BitVec 9) : xtime (a ^^^ b) p = xtime a p ^^^ xtime b p := by
  unfold xtime
  cases ha : a.msb <;> cases hb : b.msb <;> simp [ha, hb, BitVec.shiftLeft_xor_distrib] <;>
    (ext i; simp; try grind)

theorem gmul8Sum_xor_left (p : BitVec 9) (n : Nat) (a a' b : Byte) :
    gmul8Sum p n (a ^^^ a') b = gmul8Sum p n a b ^^^ gmul8Sum p n a' b := by
  induction n generalizing a a' b with
  | zero => simp [gmul8Sum]
  | succ n ih =>
    simp only [gmul8Sum, xtime_xor, ih]
    split
    · ext i; simp; grind
    · simp

theorem gmul8Sum_xor_right (p : BitVec 9) (n : Nat) (a b b' : Byte) :
    gmul8Sum p n a (b ^^^ b') = gmul8Sum p n a b ^^^ gmul8Sum p n a b' := by
  induction n generalizing a b b' with
  | zero => simp [gmul8Sum]
  | succ n ih =>
    have hs : (b ^^^ b') >>> 1 = b >>> 1 ^^^ b' >>> 1 := BitVec.ushiftRight_xor_distrib ..
    simp only [gmul8Sum, hs, ih, BitVec.getLsbD_xor]
    cases b.getLsbD 0 <;> cases b'.getLsbD 0 <;> ext i <;> simp <;> grind

theorem gmul8_xor_left (a a' b : Byte) (p : BitVec 9) : gmul8 (a ^^^ a') b p = gmul8 a b p ^^^ gmul8 a' b p :=
  gmul8Sum_xor_left p 8 a a' b

theorem gmul8_xor_right (a b b' : Byte) (p : BitVec 9) : gmul8 a (b ^^^ b') p = gmul8 a b p ^^^ gmul8 a b' p :=
  gmul8Sum_xor_right p 8 a b b'

@[simp] theorem gmul8_zero_left (b : Byte) (p : BitVec 9) : gmul8 0 b p = 0 := by
  have h := gmul8_xor_left 0 0 b p
  simpa using h

@[simp] theorem gmul8_zero_right (a : Byte) (p : BitVec 9) : gmul8 a 0 p = 0 := by
  have h := gmul8_xor_right a 0 0 p
  simpa using h

end Sys2Proof.Machine
end

