-- ==== Sys2Proof/Laws/Decode.lean ====
section
/-! SUPPORT. What the opcode rows select and how the fields of a command word are its bytes
(spec/30_encoding.md R80 to R84). -/

namespace Sys2Proof
open Machine

/-! ## Fields are bytes (R80) -/

theorem opField_eq (w : Word) : opField w = byteOf 0 w := rfl
theorem rsvField_eq (w : Word) : rsvField w = byteOf 3 w := rfl
theorem klenField_eq (w : Word) : klenField w = (byteOf 1 w).toNat := rfl
theorem ivlenField_eq (w : Word) : ivlenField w = (byteOf 2 w).toNat := rfl

/-- The SETUP word in terms of its bytes (R80, R89). -/
theorem encode_setup (klen ivlen : Nat) (hk : klen < 256) (hv : ivlen < 256) :
    encode (.setup klen ivlen) = be32 0 (BitVec.ofNat 8 ivlen) (BitVec.ofNat 8 klen) 1 := by
  have h : ∀ n, n < 256 → zext32 (BitVec.ofNat 8 n) = BitVec.ofNat 32 n := by
    intro n hn
    apply BitVec.eq_of_toNat_eq
    simp [zext32]
    omega
  simp only [encode, be32, h _ hk, h _ hv]
  simp [zext32]

/-- A mask of whole bytes keeps those bytes. -/
theorem byteOf_and (k : Nat) (u v : Word) : byteOf k (u &&& v) = byteOf k u &&& byteOf k v := by
  ext i hi
  simp [byteOf]

/-! ## The rows (R83) -/

/-- A Format C0 row selects its opcode's word and no other (R81). -/
@[simp] theorem formatC0_selects (op w : Word) : (formatC0 op).selects w = true ↔ w = op := by
  have h : w &&& 0xFFFFFFFF = w := by
    rw [show (0xFFFFFFFF : Word) = BitVec.allOnes 32 by decide, BitVec.and_allOnes]
  simp only [formatC0, OpcodeRow.selects, beq_iff_eq, h]

@[simp] theorem rowNop_selects (w : Word) : rowNop.selects w = true ↔ w = 0x00 := formatC0_selects _ w
@[simp] theorem rowXorb_selects (w : Word) : rowXorb.selects w = true ↔ w = 0x02 := formatC0_selects _ w
@[simp] theorem rowXorw_selects (w : Word) : rowXorw.selects w = true ↔ w = 0x03 := formatC0_selects _ w
@[simp] theorem rowMula_selects (w : Word) : rowMula.selects w = true ↔ w = 0x10 := formatC0_selects _ w
@[simp] theorem rowMulai_selects (w : Word) : rowMulai.selects w = true ↔ w = 0x11 := formatC0_selects _ w
@[simp] theorem rowSbox_selects (w : Word) : rowSbox.selects w = true ↔ w = 0x12 := formatC0_selects _ w

/-- The SETUP row selects the words whose OP is 0x01 and whose RSV is 0, whatever KLEN and IVLEN are (R81). -/
@[simp] theorem rowSetup_selects (w : Word) :
    rowSetup.selects w = true ↔ opField w = 0x01 ∧ rsvField w = 0 := by
  have hm : byteOf 3 (0xFF0000FF : Word) = BitVec.allOnes 8 ∧ byteOf 2 (0xFF0000FF : Word) = 0 ∧
      byteOf 1 (0xFF0000FF : Word) = 0 ∧ byteOf 0 (0xFF0000FF : Word) = BitVec.allOnes 8 := by decide
  have hp : byteOf 3 (1 : Word) = 0 ∧ byteOf 2 (1 : Word) = 0 ∧ byteOf 1 (1 : Word) = 0 ∧
      byteOf 0 (1 : Word) = 1 := by decide
  simp only [rowSetup, formatCS, OpcodeRow.selects, beq_iff_eq, opField_eq, rsvField_eq]
  constructor
  · intro h
    have h0 := congrArg (byteOf 0) h
    have h3 := congrArg (byteOf 3) h
    rw [byteOf_and, hm.2.2.2, hp.2.2.2, BitVec.and_allOnes] at h0
    rw [byteOf_and, hm.1, hp.1, BitVec.and_allOnes] at h3
    exact ⟨h0, h3⟩
  · rintro ⟨h0, h3⟩
    apply word_ext
    · rw [byteOf_and, hm.1, hp.1, h3]; decide
    · rw [byteOf_and, hm.2.1, hp.2.1]; simp
    · rw [byteOf_and, hm.2.2.1, hp.2.2.1]; simp
    · rw [byteOf_and, hm.2.2.2, hp.2.2.2, h0]; decide

/-! ## The decoder (R84, R85) -/

/-- Everything the decoder answers: the word of one of the seven commands, or an illegal word. -/
theorem decode_cases (w : Word) :
    (w = 0x00 ∧ decode w = .ok .nop) ∨
    (opField w = 0x01 ∧ rsvField w = 0 ∧ decode w = .ok (.setup (klenField w) (ivlenField w))) ∨
    (w = 0x02 ∧ decode w = .ok .xorb) ∨
    (w = 0x03 ∧ decode w = .ok .xorw) ∨
    (w = 0x10 ∧ decode w = .ok .mula) ∨
    (w = 0x11 ∧ decode w = .ok .mulai) ∨
    (w = 0x12 ∧ decode w = .ok .sbox) ∨
    (w ≠ 0x00 ∧ ¬ (opField w = 0x01 ∧ rsvField w = 0) ∧ w ≠ 0x02 ∧ w ≠ 0x03 ∧ w ≠ 0x10 ∧ w ≠ 0x11 ∧ w ≠ 0x12 ∧
      decode w = .error (illegalReason w)) := by
  unfold decode
  split_ifs with h0 h1 h2 h3 h4 h5 h6
  · exact .inl ⟨(rowNop_selects w).mp h0, rfl⟩
  · exact .inr (.inl ⟨((rowSetup_selects w).mp h1).1, ((rowSetup_selects w).mp h1).2, rfl⟩)
  · exact .inr (.inr (.inl ⟨(rowXorb_selects w).mp h2, rfl⟩))
  · exact .inr (.inr (.inr (.inl ⟨(rowXorw_selects w).mp h3, rfl⟩)))
  · exact .inr (.inr (.inr (.inr (.inl ⟨(rowMula_selects w).mp h4, rfl⟩))))
  · exact .inr (.inr (.inr (.inr (.inr (.inl ⟨(rowMulai_selects w).mp h5, rfl⟩)))))
  · exact .inr (.inr (.inr (.inr (.inr (.inr (.inl ⟨(rowSbox_selects w).mp h6, rfl⟩))))))
  · rw [rowNop_selects] at h0
    rw [rowSetup_selects] at h1
    rw [rowXorb_selects] at h2
    rw [rowXorw_selects] at h3
    rw [rowMula_selects] at h4
    rw [rowMulai_selects] at h5
    rw [rowSbox_selects] at h6
    exact .inr (.inr (.inr (.inr (.inr (.inr (.inr ⟨h0, h1, h2, h3, h4, h5, h6, rfl⟩))))))

end Sys2Proof
end

