-- ==== Sys2Proof/Laws/State.lean ====
section
/-! SUPPORT. What each shared update of the state does to each field, one lemma a field, so that no later proof
unfolds a record update. -/

namespace Sys2Proof.Machine

/-! ## reject -/

@[simp] theorem reject_lfsr (s : State) (c : Err) : (s.reject c).lfsr = s.lfsr := rfl
@[simp] theorem reject_r1 (s : State) (c : Err) : (s.reject c).r1 = s.r1 := rfl
@[simp] theorem reject_r2 (s : State) (c : Err) : (s.reject c).r2 = s.r2 := rfl
@[simp] theorem reject_kbuf (s : State) (c : Err) : (s.reject c).kbuf = s.kbuf := rfl
@[simp] theorem reject_krem (s : State) (c : Err) : (s.reject c).krem = s.krem := rfl
@[simp] theorem reject_phase (s : State) (c : Err) : (s.reject c).phase = s.phase := rfl
@[simp] theorem reject_icnt (s : State) (c : Err) : (s.reject c).icnt = s.icnt := rfl
@[simp] theorem reject_err (s : State) (c : Err) : (s.reject c).err = c := rfl
@[simp] theorem reject_din (s : State) (c : Err) : (s.reject c).din = s.din := rfl
@[simp] theorem reject_dout (s : State) (c : Err) : (s.reject c).dout = s.dout := rfl
@[simp] theorem reject_key (s : State) (c : Err) : (s.reject c).key = s.key := rfl
@[simp] theorem reject_iv (s : State) (c : Err) : (s.reject c).iv = s.iv := rfl
@[simp] theorem reject_base (s : State) (c : Err) : (s.reject c).base = s.base := rfl
@[simp] theorem reject_program (s : State) (c : Err) : (s.reject c).program = s.program := rfl
@[simp] theorem reject_schedule (s : State) (c : Err) : (s.reject c).schedule = s.schedule := rfl
@[simp] theorem reject_reads (s : State) (c : Err) : (s.reject c).reads = s.reads := rfl

/-! ## accept -/

@[simp] theorem accept_lfsr (s : State) : (s.accept).lfsr = s.lfsr := rfl
@[simp] theorem accept_r1 (s : State) : (s.accept).r1 = s.r1 := rfl
@[simp] theorem accept_r2 (s : State) : (s.accept).r2 = s.r2 := rfl
@[simp] theorem accept_kbuf (s : State) : (s.accept).kbuf = s.kbuf := rfl
@[simp] theorem accept_krem (s : State) : (s.accept).krem = s.krem := rfl
@[simp] theorem accept_phase (s : State) : (s.accept).phase = s.phase := rfl
@[simp] theorem accept_icnt (s : State) : (s.accept).icnt = s.icnt := rfl
@[simp] theorem accept_err (s : State) : (s.accept).err = .ok := rfl
@[simp] theorem accept_din (s : State) : (s.accept).din = s.din := rfl
@[simp] theorem accept_dout (s : State) : (s.accept).dout = s.dout := rfl
@[simp] theorem accept_key (s : State) : (s.accept).key = s.key := rfl
@[simp] theorem accept_iv (s : State) : (s.accept).iv = s.iv := rfl
@[simp] theorem accept_base (s : State) : (s.accept).base = s.base := rfl
@[simp] theorem accept_program (s : State) : (s.accept).program = s.program := rfl
@[simp] theorem accept_schedule (s : State) : (s.accept).schedule = s.schedule := rfl
@[simp] theorem accept_reads (s : State) : (s.accept).reads = s.reads := rfl

/-! ## clockCore -/

@[simp] theorem clockCore_lfsr (m : ClockMode) (s : State) : (clockCore m s).lfsr = shiftIn s.lfsr (s.newWord m) := rfl
@[simp] theorem clockCore_r1 (m : ClockMode) (s : State) : (clockCore m s).r1 = add32 s.r2 s.lfsr[5] := rfl
@[simp] theorem clockCore_r2 (m : ClockMode) (s : State) : (clockCore m s).r2 = sfsm s.r1 := rfl
@[simp] theorem clockCore_kbuf (m : ClockMode) (s : State) : (clockCore m s).kbuf = s.kbuf := rfl
@[simp] theorem clockCore_krem (m : ClockMode) (s : State) : (clockCore m s).krem = s.krem := rfl
@[simp] theorem clockCore_phase (m : ClockMode) (s : State) : (clockCore m s).phase = s.phase := rfl
@[simp] theorem clockCore_icnt (m : ClockMode) (s : State) : (clockCore m s).icnt = s.icnt := rfl
@[simp] theorem clockCore_err (m : ClockMode) (s : State) : (clockCore m s).err = s.err := rfl
@[simp] theorem clockCore_din (m : ClockMode) (s : State) : (clockCore m s).din = s.din := rfl
@[simp] theorem clockCore_dout (m : ClockMode) (s : State) : (clockCore m s).dout = s.dout := rfl
@[simp] theorem clockCore_key (m : ClockMode) (s : State) : (clockCore m s).key = s.key := rfl
@[simp] theorem clockCore_iv (m : ClockMode) (s : State) : (clockCore m s).iv = s.iv := rfl
@[simp] theorem clockCore_base (m : ClockMode) (s : State) : (clockCore m s).base = s.base := rfl
@[simp] theorem clockCore_program (m : ClockMode) (s : State) : (clockCore m s).program = s.program := rfl
@[simp] theorem clockCore_schedule (m : ClockMode) (s : State) : (clockCore m s).schedule = s.schedule := rfl
@[simp] theorem clockCore_reads (m : ClockMode) (s : State) : (clockCore m s).reads = s.reads := rfl

/-! ## load -/

@[simp] theorem load_lfsr (n : Nat) (s : State) : (load n s).lfsr = Vector.ofFn fun i => mapKey n s.key i ^^^ mapIV s.iv i := rfl
@[simp] theorem load_r1 (n : Nat) (s : State) : (load n s).r1 = 0 := rfl
@[simp] theorem load_r2 (n : Nat) (s : State) : (load n s).r2 = 0 := rfl
@[simp] theorem load_kbuf (n : Nat) (s : State) : (load n s).kbuf = 0 := rfl
@[simp] theorem load_krem (n : Nat) (s : State) : (load n s).krem = 0 := rfl
@[simp] theorem load_phase (n : Nat) (s : State) : (load n s).phase = .init := rfl
@[simp] theorem load_icnt (n : Nat) (s : State) : (load n s).icnt = 0 := rfl
@[simp] theorem load_err (n : Nat) (s : State) : (load n s).err = s.err := rfl
@[simp] theorem load_din (n : Nat) (s : State) : (load n s).din = s.din := rfl
@[simp] theorem load_dout (n : Nat) (s : State) : (load n s).dout = s.dout := rfl
@[simp] theorem load_key (n : Nat) (s : State) : (load n s).key = s.key := rfl
@[simp] theorem load_iv (n : Nat) (s : State) : (load n s).iv = s.iv := rfl
@[simp] theorem load_base (n : Nat) (s : State) : (load n s).base = s.base := rfl
@[simp] theorem load_program (n : Nat) (s : State) : (load n s).program = s.program := rfl
@[simp] theorem load_schedule (n : Nat) (s : State) : (load n s).schedule = s.schedule := rfl
@[simp] theorem load_reads (n : Nat) (s : State) : (load n s).reads = s.reads := rfl

/-! ## resetBlock -/

@[simp] theorem resetBlock_lfsr (s : State) : (s.resetBlock).lfsr = State.reset.lfsr := rfl
@[simp] theorem resetBlock_r1 (s : State) : (s.resetBlock).r1 = State.reset.r1 := rfl
@[simp] theorem resetBlock_r2 (s : State) : (s.resetBlock).r2 = State.reset.r2 := rfl
@[simp] theorem resetBlock_kbuf (s : State) : (s.resetBlock).kbuf = State.reset.kbuf := rfl
@[simp] theorem resetBlock_krem (s : State) : (s.resetBlock).krem = State.reset.krem := rfl
@[simp] theorem resetBlock_phase (s : State) : (s.resetBlock).phase = State.reset.phase := rfl
@[simp] theorem resetBlock_icnt (s : State) : (s.resetBlock).icnt = State.reset.icnt := rfl
@[simp] theorem resetBlock_err (s : State) : (s.resetBlock).err = State.reset.err := rfl
@[simp] theorem resetBlock_din (s : State) : (s.resetBlock).din = State.reset.din := rfl
@[simp] theorem resetBlock_dout (s : State) : (s.resetBlock).dout = State.reset.dout := rfl
@[simp] theorem resetBlock_key (s : State) : (s.resetBlock).key = State.reset.key := rfl
@[simp] theorem resetBlock_iv (s : State) : (s.resetBlock).iv = State.reset.iv := rfl
@[simp] theorem resetBlock_base (s : State) : (s.resetBlock).base = s.base := rfl
@[simp] theorem resetBlock_program (s : State) : (s.resetBlock).program = s.program := rfl
@[simp] theorem resetBlock_schedule (s : State) : (s.resetBlock).schedule = s.schedule := rfl
@[simp] theorem resetBlock_reads (s : State) : (s.resetBlock).reads = s.reads := rfl

/-! ## busRead -/

@[simp] theorem busRead_lfsr (r : Reg) (s : State) : (busRead r s).lfsr = s.lfsr := rfl
@[simp] theorem busRead_r1 (r : Reg) (s : State) : (busRead r s).r1 = s.r1 := rfl
@[simp] theorem busRead_r2 (r : Reg) (s : State) : (busRead r s).r2 = s.r2 := rfl
@[simp] theorem busRead_kbuf (r : Reg) (s : State) : (busRead r s).kbuf = s.kbuf := rfl
@[simp] theorem busRead_krem (r : Reg) (s : State) : (busRead r s).krem = s.krem := rfl
@[simp] theorem busRead_phase (r : Reg) (s : State) : (busRead r s).phase = s.phase := rfl
@[simp] theorem busRead_icnt (r : Reg) (s : State) : (busRead r s).icnt = s.icnt := rfl
@[simp] theorem busRead_err (r : Reg) (s : State) : (busRead r s).err = s.err := rfl
@[simp] theorem busRead_din (r : Reg) (s : State) : (busRead r s).din = s.din := rfl
@[simp] theorem busRead_dout (r : Reg) (s : State) : (busRead r s).dout = s.dout := rfl
@[simp] theorem busRead_key (r : Reg) (s : State) : (busRead r s).key = s.key := rfl
@[simp] theorem busRead_iv (r : Reg) (s : State) : (busRead r s).iv = s.iv := rfl
@[simp] theorem busRead_base (r : Reg) (s : State) : (busRead r s).base = s.base := rfl
@[simp] theorem busRead_program (r : Reg) (s : State) : (busRead r s).program = s.program := rfl
@[simp] theorem busRead_schedule (r : Reg) (s : State) : (busRead r s).schedule = s.schedule := rfl
@[simp] theorem busRead_reads (r : Reg) (s : State) : (busRead r s).reads = s.reads ++ [s.readReg r] := rfl

/-! ## testAccess -/

@[simp] theorem testAccess_lfsr (s : State) (f : Word → Word) : (testAccess s f).lfsr = s.lfsr := rfl
@[simp] theorem testAccess_r1 (s : State) (f : Word → Word) : (testAccess s f).r1 = s.r1 := rfl
@[simp] theorem testAccess_r2 (s : State) (f : Word → Word) : (testAccess s f).r2 = s.r2 := rfl
@[simp] theorem testAccess_kbuf (s : State) (f : Word → Word) : (testAccess s f).kbuf = s.kbuf := rfl
@[simp] theorem testAccess_krem (s : State) (f : Word → Word) : (testAccess s f).krem = s.krem := rfl
@[simp] theorem testAccess_phase (s : State) (f : Word → Word) : (testAccess s f).phase = s.phase := rfl
@[simp] theorem testAccess_icnt (s : State) (f : Word → Word) : (testAccess s f).icnt = s.icnt := rfl
@[simp] theorem testAccess_err (s : State) (f : Word → Word) : (testAccess s f).err = .ok := rfl
@[simp] theorem testAccess_din (s : State) (f : Word → Word) : (testAccess s f).din = s.din := rfl
@[simp] theorem testAccess_dout (s : State) (f : Word → Word) : (testAccess s f).dout = f s.dinWord := rfl
@[simp] theorem testAccess_key (s : State) (f : Word → Word) : (testAccess s f).key = s.key := rfl
@[simp] theorem testAccess_iv (s : State) (f : Word → Word) : (testAccess s f).iv = s.iv := rfl
@[simp] theorem testAccess_base (s : State) (f : Word → Word) : (testAccess s f).base = s.base := rfl
@[simp] theorem testAccess_program (s : State) (f : Word → Word) : (testAccess s f).program = s.program := rfl
@[simp] theorem testAccess_schedule (s : State) (f : Word → Word) : (testAccess s f).schedule = s.schedule := rfl
@[simp] theorem testAccess_reads (s : State) (f : Word → Word) : (testAccess s f).reads = s.reads := rfl

/-! ## writeReg: only DIN, KEY and IV are ever written -/

@[simp] theorem writeReg_lfsr (s : State) (v : Word) (r : Reg) : (s.writeReg v r).lfsr = s.lfsr := by
  cases r <;> rfl
@[simp] theorem writeReg_r1 (s : State) (v : Word) (r : Reg) : (s.writeReg v r).r1 = s.r1 := by
  cases r <;> rfl
@[simp] theorem writeReg_r2 (s : State) (v : Word) (r : Reg) : (s.writeReg v r).r2 = s.r2 := by
  cases r <;> rfl
@[simp] theorem writeReg_kbuf (s : State) (v : Word) (r : Reg) : (s.writeReg v r).kbuf = s.kbuf := by
  cases r <;> rfl
@[simp] theorem writeReg_krem (s : State) (v : Word) (r : Reg) : (s.writeReg v r).krem = s.krem := by
  cases r <;> rfl
@[simp] theorem writeReg_phase (s : State) (v : Word) (r : Reg) : (s.writeReg v r).phase = s.phase := by
  cases r <;> rfl
@[simp] theorem writeReg_icnt (s : State) (v : Word) (r : Reg) : (s.writeReg v r).icnt = s.icnt := by
  cases r <;> rfl
@[simp] theorem writeReg_err (s : State) (v : Word) (r : Reg) : (s.writeReg v r).err = s.err := by
  cases r <;> rfl
@[simp] theorem writeReg_dout (s : State) (v : Word) (r : Reg) : (s.writeReg v r).dout = s.dout := by
  cases r <;> rfl
@[simp] theorem writeReg_base (s : State) (v : Word) (r : Reg) : (s.writeReg v r).base = s.base := by
  cases r <;> rfl
@[simp] theorem writeReg_program (s : State) (v : Word) (r : Reg) : (s.writeReg v r).program = s.program := by
  cases r <;> rfl
@[simp] theorem writeReg_schedule (s : State) (v : Word) (r : Reg) : (s.writeReg v r).schedule = s.schedule := by
  cases r <;> rfl
@[simp] theorem writeReg_reads (s : State) (v : Word) (r : Reg) : (s.writeReg v r).reads = s.reads := by
  cases r <;> rfl

@[simp] theorem writeReg_din_din (s : State) (v : Word) : (s.writeReg v .din).din = v := rfl
@[simp] theorem writeReg_key_key (s : State) (v : Word) (i : Fin 8) :
    (s.writeReg v (.key i)).key = s.key.set i v := rfl
@[simp] theorem writeReg_iv_iv (s : State) (v : Word) (j : Fin 4) :
    (s.writeReg v (.iv j)).iv = s.iv.set j v := rfl

/-! ## BUSY and STATUS depend on their own fields only -/

@[simp] theorem busy_iff (s : State) : s.busy = true ↔ s.phase = .init := by
  simp [State.busy]

theorem busy_eq_false_iff (s : State) : s.busy = false ↔ s.phase ≠ .init := by
  simp [State.busy]

/-- STATUS is a function of PHASE, KREM, ERR and ICNT (R35). -/
theorem status_congr {s t : State} (hp : s.phase = t.phase) (hk : s.krem = t.krem) (he : s.err = t.err)
    (hi : s.icnt = t.icnt) : s.status = t.status := by
  simp [State.status, State.busy, hp, hk, he, hi]

end Sys2Proof.Machine
end

