-- ==== Sys2Proof/Laws/Ops.lean ====
section
/-! SUPPORT. One specification lemma per shared operation: what it answers, case by case. Later proofs cite these
instead of unfolding the operation. -/

namespace Sys2Proof.Machine

/-! ## command (R85, R223) -/

theorem command_busy {s : State} (h : s.phase = .init) (f : State → State) :
    command s f = .next (s.reject .busy) := by
  simp [command, h]

theorem command_idle {s : State} (h : s.phase ≠ .init) (f : State → State) :
    command s f = .next (f s) := by
  simp [command, h]

/-- A command always answers a next state: the rejection while INIT, its own result otherwise. -/
theorem command_next {s t : State} {f : State → State} (h : command s f = .next t) :
    (s.phase = .init ∧ t = s.reject .busy) ∨ (s.phase ≠ .init ∧ t = f s) := by
  by_cases hp : s.phase = .init
  · rw [command_busy hp] at h
    exact .inl ⟨hp, by cases h; rfl⟩
  · rw [command_idle hp] at h
    exact .inr ⟨hp, by cases h; rfl⟩

theorem whenKeyed_unkeyed {s : State} (h : s.phase = .unkeyed) (f : State → State) :
    whenKeyed s f = s.reject .notReady := by
  simp [whenKeyed, h]

theorem whenKeyed_keyed {s : State} (h : s.phase ≠ .unkeyed) (f : State → State) : whenKeyed s f = f s := by
  simp [whenKeyed, h]

/-! ## The clock (R143) -/

@[simp] theorem shiftIn_get (v : Vector Word 16) (new : Word) (i : Nat) (h : i < 15) :
    (shiftIn v new)[i] = v[i + 1] := by
  have : i = 0 ∨ i = 1 ∨ i = 2 ∨ i = 3 ∨ i = 4 ∨ i = 5 ∨ i = 6 ∨ i = 7 ∨ i = 8 ∨ i = 9 ∨ i = 10 ∨ i = 11 ∨
    i = 12 ∨ i = 13 ∨ i = 14 := by omega
  rcases this with h | h | h | h | h | h | h | h | h | h | h | h | h | h | h <;> subst h <;> rfl

@[simp] theorem shiftIn_last (v : Vector Word 16) (new : Word) : (shiftIn v new)[15] = new := rfl

/-- A clock reads S, R1 and R2 only. -/
theorem newWord_congr {s t : State} (hl : s.lfsr = t.lfsr) (h1 : s.r1 = t.r1) (h2 : s.r2 = t.r2)
    (m : ClockMode) : s.newWord m = t.newWord m := by
  cases m <;> simp [State.newWord, State.feedback, State.fsmOut, hl, h1, h2]

/-- The keystream word of a state is a function of S, R1 and R2 (R141). -/
theorem keyWord_congr {s t : State} (hl : s.lfsr = t.lfsr) (h1 : s.r1 = t.r1) (h2 : s.r2 = t.r2) :
    s.keyWord = t.keyWord := by
  simp [State.keyWord, State.fsmOut, hl, h1, h2]

/-! ## The byte source (R190) -/

theorem nextKsByte_refill {s : State} (h : s.krem = 0) :
    nextKsByte s = (byteOf 3 (clockCore .ksMode s).keyWord,
      { clockCore .ksMode s with kbuf := (clockCore .ksMode s).keyWord, krem := 3 }) := by
  simp only [nextKsByte, if_pos h, ksWord]

theorem nextKsByte_residual {s : State} (h : s.krem ≠ 0) :
    nextKsByte s = (byteOf (s.krem.toNat - 1) s.kbuf, { s with krem := s.krem - 1 }) := by
  simp only [nextKsByte, if_neg h]

/-- KREM counts down modulo 4 with every byte (R192). -/
theorem nextKsByte_krem (s : State) : (nextKsByte s).2.krem = s.krem - 1 := by
  by_cases h : s.krem = 0
  · rw [nextKsByte_refill h, h]; rfl
  · rw [nextKsByte_residual h]

/-- The byte source writes S, R1, R2, KBUF and KREM only (R190). -/
theorem nextKsByte_frame (s : State) :
    (nextKsByte s).2 = { s with
      lfsr := (nextKsByte s).2.lfsr, r1 := (nextKsByte s).2.r1, r2 := (nextKsByte s).2.r2
      kbuf := (nextKsByte s).2.kbuf, krem := (nextKsByte s).2.krem } := by
  by_cases h : s.krem = 0
  · rw [nextKsByte_refill h]; rfl
  · rw [nextKsByte_residual h]

/-- The four values of KREM. -/
theorem krem_cases (k : BitVec 2) : k = 0 ∨ k = 1 ∨ k = 2 ∨ k = 3 := by
  revert k; decide

/-- Four bytes clock the cipher exactly once, whatever KREM is, and leave KREM where it was (R191, R194). -/
theorem nextKsWord_state (s : State) :
    (nextKsWord s).2 = { clockCore .ksMode s with kbuf := (clockCore .ksMode s).keyWord } := by
  rcases krem_cases s.krem with h | h | h | h <;>
    simp [nextKsWord, nextKsByte, ksWord, h, clockCore, State.keyWord, State.fsmOut, State.newWord,
      State.feedback]

/-- At KREM = 0 four bytes are the next keystream word (R194). -/
theorem nextKsWord_aligned {s : State} (h : s.krem = 0) : (nextKsWord s).1 = (ksWord s).1 := by
  simp [nextKsWord, nextKsByte, ksWord, h, be32_byteOf]

/-! ## The init sequencer (R170) -/

theorem tick_outside_init {s : State} (h : s.phase ≠ .init) : tick s = s := by
  cases hp : s.phase <;> simp_all [tick]

theorem tick_init {s : State} (h : s.phase = .init) :
    tick s = { clockCore .initMode s with
      icnt := s.icnt + 1
      phase := if s.icnt.toNat + 1 = Config.initClocks then .ready else .init } := by
  simp [tick, h]

/-- A TICK writes S, R1, R2, ICNT and PHASE only (R170). -/
theorem tick_frame (s : State) :
    tick s = { s with
      lfsr := (tick s).lfsr, r1 := (tick s).r1, r2 := (tick s).r2, icnt := (tick s).icnt
      phase := (tick s).phase } := by
  by_cases h : s.phase = .init
  · rw [tick_init h]; rfl
  · rw [tick_outside_init h]

/-! ## The window (R36, R64) -/

theorem regAt_offset (r : Reg) : regAt r.offset = some r := by
  cases r with
  | key i => fin_cases i <;> rfl
  | iv j => fin_cases j <;> rfl
  | _ => rfl

theorem offset_lt (r : Reg) : r.offset < Config.windowBytes := by
  cases r <;> simp [Reg.offset, Config.windowBytes] <;> omega

/-- An aligned word access inside the window reaches its register (R36). -/
theorem resolve_reg (s : State) (r : Reg) : s.resolve .word (s.base + r.offset) = .ok r := by
  have h := offset_lt r
  simp [State.resolve, regAt_offset, h]

/-- The other direction: an access that resolves is a word access to that register. -/
theorem resolve_ok {s : State} {size : AccessSize} {addr : Nat} {r : Reg}
    (h : s.resolve size addr = .ok r) : size = .word ∧ addr = s.base + r.offset := by
  unfold State.resolve at h
  split at h
  · cases h
  · split at h
    · cases h
    · rename_i hs ha
      refine ⟨by simpa using hs, ?_⟩
      split at h
      · rename_i r' hr
        cases h
        have hoff : addr - s.base = r.offset := by
          unfold regAt at hr
          split at hr <;> first | (cases hr; simpa [Reg.offset] using ‹_›) | cases hr
        omega
      · cases h

end Sys2Proof.Machine
end

