-- ==== Sys2Proof/Laws/Exec.lean ====
section
/-! SUPPORT. What a command and a command word answer (spec/30_encoding.md R85): one inversion lemma per meaning,
and one for dispatch. -/

namespace Sys2Proof.Machine

/-! ## The meanings, when BUSY = 0 -/

theorem execNop_idle {s : State} (h : s.phase ≠ .init) : execNop s = .next s.accept := command_idle h _

theorem execMula_idle {s : State} (h : s.phase ≠ .init) : execMula s = .next (testAccess s mulAlpha) :=
  command_idle h _

theorem execMulai_idle {s : State} (h : s.phase ≠ .init) : execMulai s = .next (testAccess s mulAlphaInv) :=
  command_idle h _

theorem execSbox_idle {s : State} (h : s.phase ≠ .init) : execSbox s = .next (testAccess s sfsm) :=
  command_idle h _

theorem execXorb_unkeyed {s : State} (h : s.phase = .unkeyed) : execXorb s = .next (s.reject .notReady) := by
  rw [execXorb, command_idle (by simp [h]), whenKeyed_unkeyed h]

theorem execXorb_ready {s : State} (h : s.phase = .ready) :
    execXorb s = .next
      { (nextKsByte s).2 with dout := zext32 (s.dinByte ^^^ (nextKsByte s).1), err := .ok } := by
  rw [execXorb, command_idle (by simp [h]), whenKeyed_keyed (by simp [h])]
  rfl

theorem execXorw_unkeyed {s : State} (h : s.phase = .unkeyed) : execXorw s = .next (s.reject .notReady) := by
  rw [execXorw, command_idle (by simp [h]), whenKeyed_unkeyed h]

theorem execXorw_ready {s : State} (h : s.phase = .ready) :
    execXorw s = .next
      { (nextKsWord s).2 with dout := s.dinWord ^^^ (nextKsWord s).1, err := .ok } := by
  rw [execXorw, command_idle (by simp [h]), whenKeyed_keyed (by simp [h])]
  rfl

theorem execSetup_accepted {s : State} (h : s.phase ≠ .init) {klen : Nat} (hk : klen = 16 ∨ klen = 32) :
    execSetup klen 16 s = .next (load klen s).accept := by
  rw [execSetup, command_idle h]
  rcases hk with rfl | rfl <;>
    simp [Config.keyBytes128, Config.keyBytes256, Config.ivBytes]

theorem execSetup_keySize {s : State} (h : s.phase ≠ .init) {klen : Nat} (hk : klen ≠ 16 ∧ klen ≠ 32)
    (ivlen : Nat) : execSetup klen ivlen s = .next (s.reject .keySize) := by
  rw [execSetup, command_idle h]
  exact congrArg _ (if_pos hk)

theorem execSetup_ivSize {s : State} (h : s.phase ≠ .init) {klen ivlen : Nat} (hk : klen = 16 ∨ klen = 32)
    (hv : ivlen ≠ 16) : execSetup klen ivlen s = .next (s.reject .ivSize) := by
  rw [execSetup, command_idle h, if_neg (by simp [Config.keyBytes128, Config.keyBytes256]; omega)]
  exact congrArg _ (if_pos hv)

/-! ## Every command, in every phase -/

/-- While INIT every command is dropped with E_BUSY (R223). -/
theorem exec_busy {s : State} (h : s.phase = .init) (i : Instr) : exec i s = .next (s.reject .busy) := by
  cases i <;>
    simp only [exec, execNop, execSetup, execXorb, execXorw, execMula, execMulai, execSbox, command_busy h]

/-- What a command leaves: the rejection of its rule, or the effect of its rule. -/
theorem exec_next {i : Instr} {s t : State} (h : exec i s = .next t) :
    (∃ c, c ≠ .ok ∧ t = s.reject c) ∨
    (s.phase ≠ .init ∧
      ((i = .nop ∧ t = s.accept) ∨
       (i = .mula ∧ t = testAccess s mulAlpha) ∨
       (i = .mulai ∧ t = testAccess s mulAlphaInv) ∨
       (i = .sbox ∧ t = testAccess s sfsm) ∨
       (∃ klen, i = .setup klen 16 ∧ (klen = 16 ∨ klen = 32) ∧ t = (load klen s).accept) ∨
       (s.phase = .ready ∧ i = .xorb ∧
        t = { (nextKsByte s).2 with dout := zext32 (s.dinByte ^^^ (nextKsByte s).1), err := .ok }) ∨
       (s.phase = .ready ∧ i = .xorw ∧
        t = { (nextKsWord s).2 with dout := s.dinWord ^^^ (nextKsWord s).1, err := .ok }))) := by
  by_cases hp : s.phase = .init
  · rw [exec_busy hp] at h
    exact .inl ⟨.busy, by decide, by cases h; rfl⟩
  · cases i with
    | nop =>
      have e := (execNop_idle hp).symm.trans h
      exact .inr ⟨hp, .inl ⟨rfl, by cases e; rfl⟩⟩
    | mula =>
      have e := (execMula_idle hp).symm.trans h
      exact .inr ⟨hp, .inr (.inl ⟨rfl, by cases e; rfl⟩)⟩
    | mulai =>
      have e := (execMulai_idle hp).symm.trans h
      exact .inr ⟨hp, .inr (.inr (.inl ⟨rfl, by cases e; rfl⟩))⟩
    | sbox =>
      have e := (execSbox_idle hp).symm.trans h
      exact .inr ⟨hp, .inr (.inr (.inr (.inl ⟨rfl, by cases e; rfl⟩)))⟩
    | setup klen ivlen =>
      by_cases hk : klen = 16 ∨ klen = 32
      · by_cases hv : ivlen = 16
        · subst hv
          have e := (execSetup_accepted hp hk).symm.trans h
          exact .inr ⟨hp, .inr (.inr (.inr (.inr (.inl ⟨klen, rfl, hk, by cases e; rfl⟩))))⟩
        · have e := (execSetup_ivSize hp hk hv).symm.trans h
          exact .inl ⟨.ivSize, by decide, by cases e; rfl⟩
      · have e := (execSetup_keySize hp (by simpa using hk) ivlen).symm.trans h
        exact .inl ⟨.keySize, by decide, by cases e; rfl⟩
    | xorb =>
      cases hq : s.phase with
      | init => exact absurd hq hp
      | unkeyed =>
        have e := (execXorb_unkeyed hq).symm.trans h
        exact .inl ⟨.notReady, by decide, by cases e; rfl⟩
      | ready =>
        have e := (execXorb_ready hq).symm.trans h
        exact .inr ⟨by simp, .inr (.inr (.inr (.inr (.inr (.inl ⟨rfl, rfl, by cases e; rfl⟩)))))⟩
    | xorw =>
      cases hq : s.phase with
      | init => exact absurd hq hp
      | unkeyed =>
        have e := (execXorw_unkeyed hq).symm.trans h
        exact .inl ⟨.notReady, by decide, by cases e; rfl⟩
      | ready =>
        have e := (execXorw_ready hq).symm.trans h
        exact .inr ⟨by simp, .inr (.inr (.inr (.inr (.inr (.inr ⟨rfl, rfl, by cases e; rfl⟩)))))⟩

/-! ## Dispatch (R85) -/

theorem dispatch_busy {s : State} (h : s.phase = .init) (w : Word) :
    dispatch w s = .next (s.reject .busy) := by
  simp [dispatch, h]

theorem dispatch_illegal {s : State} (h : s.phase ≠ .init) {w : Word} {e : Illegal}
    (hd : decode w = .error e) : dispatch w s = .next (s.reject .illegal) := by
  simp [dispatch, h, hd]

/-- A legal word runs its command; while INIT both are the E_BUSY rejection. -/
theorem dispatch_ok {s : State} {w : Word} {i : Instr} (hd : decode w = .ok i) :
    dispatch w s = exec i s := by
  by_cases h : s.phase = .init
  · rw [dispatch_busy h, exec_busy h]
  · simp [dispatch, h, hd]

/-- What a write of `w` to CMD leaves: a rejection, or the effect of the command it decodes to. -/
theorem dispatch_next {w : Word} {s t : State} (h : dispatch w s = .next t) :
    (∃ c, c ≠ .ok ∧ t = s.reject c) ∨
    (s.phase ≠ .init ∧ ∃ i, decode w = .ok i ∧ exec i s = .next t) := by
  by_cases hp : s.phase = .init
  · rw [dispatch_busy hp] at h
    exact .inl ⟨.busy, by decide, by cases h; rfl⟩
  · cases hd : decode w with
    | error e =>
      rw [dispatch_illegal hp hd] at h
      exact .inl ⟨.illegal, by decide, by cases h; rfl⟩
    | ok i =>
      rw [dispatch_ok hd] at h
      exact .inr ⟨hp, i, rfl, h⟩

end Sys2Proof.Machine
end

