-- ==== Sys2Proof/Laws/PerInstr.lean ====
section
/-! SUPPORT. Statements made per command, one lemma a constructor (spec/30_encoding.md R83). -/

namespace Sys2Proof.Laws.EncodedRow
open Sys2Proof Sys2Proof.Machine

/-- The word of a well-formed command selects the command's own row of the opcode map and no other (R83). -/
def Statement (i : Instr) : Prop :=
  i.WellFormed → ∀ r ∈ opcodeMap, r.selects (encode i) = true ↔ r = rowOf i

theorem nop : Statement .nop := by
  unfold Statement; decide

theorem setup (klen ivlen : Nat) : Statement (.setup klen ivlen) := by
  rintro ⟨hk, hv⟩ r hr
  have h0 : ∀ op : Word, byteOf 0 op ≠ 1 → encode (.setup klen ivlen) ≠ op := by
    intro op hop h
    rw [← h, encode_setup klen ivlen hk hv, byteOf_be32_0] at hop
    exact hop rfl
  have hs : rowSetup.selects (encode (.setup klen ivlen)) = true := by
    rw [rowSetup_selects, opField_eq, rsvField_eq, encode_setup klen ivlen hk hv]
    simp
  show r.selects _ = true ↔ r = rowSetup
  simp only [opcodeMap, List.mem_cons, List.not_mem_nil, or_false] at hr
  rcases hr with rfl | rfl | rfl | rfl | rfl | rfl | rfl
  · exact iff_of_false (by rw [rowNop_selects]; exact h0 _ (by decide)) (by decide)
  · exact iff_of_true hs rfl
  · exact iff_of_false (by rw [rowXorb_selects]; exact h0 _ (by decide)) (by decide)
  · exact iff_of_false (by rw [rowXorw_selects]; exact h0 _ (by decide)) (by decide)
  · exact iff_of_false (by rw [rowMula_selects]; exact h0 _ (by decide)) (by decide)
  · exact iff_of_false (by rw [rowMulai_selects]; exact h0 _ (by decide)) (by decide)
  · exact iff_of_false (by rw [rowSbox_selects]; exact h0 _ (by decide)) (by decide)

theorem xorb : Statement .xorb := by
  unfold Statement; decide

theorem xorw : Statement .xorw := by
  unfold Statement; decide

theorem mula : Statement .mula := by
  unfold Statement; decide

theorem mulai : Statement .mulai := by
  unfold Statement; decide

theorem sbox : Statement .sbox := by
  unfold Statement; decide

end Sys2Proof.Laws.EncodedRow
end

