-- ==== Sys2Proof/Laws/Step.lean ====
section
/-! SUPPORT. What one step can do, said once (spec/00_scope.md R14): the host does nothing, polls, reads or writes;
the core ticks; the block is reset. Every claim about all steps follows from `step_next`. -/

namespace Sys2Proof.Machine

/-- The state with the turn of the coming step taken from the schedule. -/
def State.spendTurn (s : State) : State := { s with schedule := s.schedule.tail }

/-- How a step can lead from `s` to `t`. -/
inductive StepCase (s t : State) : Prop where
  /-- The host's turn, with nothing left to do (R266). -/
  | idle (hm : s.hostMoves = true) (hp : s.program = []) (ht : t = s.spendTurn)
  /-- A TICK (R170). -/
  | tick (hm : s.coreMoves = true) (ht : t = Sys2Proof.Machine.tick s.spendTurn)
  /-- A reset (R250). -/
  | reset (hm : s.resets = true) (ht : t = s.spendTurn.resetBlock)
  /-- A poll of wait_ready (R89). -/
  | poll (rest : List HostOp) (hm : s.hostMoves = true) (hp : s.program = .waitReady :: rest)
      (ht : t = pollReady rest s.spendTurn)
  /-- A bus read (R37). -/
  | read (r : Reg) (rest : List HostOp) (hm : s.hostMoves = true)
      (hp : s.program = .rd .word (s.base + r.offset) :: rest)
      (ht : t = busRead r { s.spendTurn with program := rest })
  /-- A bus write (R38). -/
  | write (r : Reg) (v : Word) (rest : List HostOp) (hm : s.hostMoves = true)
      (hp : s.program = .wr .word (s.base + r.offset) v :: rest)
      (ht : busWrite r v { s.spendTurn with program := rest } = .next t)

/-- The host's step, in the terms of `StepCase`. -/
theorem hostStep_next {s t : State} (hm : s.hostMoves = true) (h : hostStep s.spendTurn = .next t) :
    StepCase s t := by
  cases hp : s.program with
  | nil =>
    refine .idle hm hp ?_
    simp only [hostStep, State.spendTurn, hp] at h
    cases h; simp [State.spendTurn, hp]
  | cons op rest =>
    cases op with
    | waitReady =>
      refine .poll rest hm hp ?_
      simp only [hostStep, State.spendTurn, hp] at h
      cases h; simp [State.spendTurn, hp]
    | rd size addr =>
      simp only [hostStep, State.spendTurn, hp] at h
      split at h
      · cases h
      · rename_i r hr
        obtain ⟨hsize, haddr⟩ := resolve_ok hr
        cases h
        exact .read r rest hm (by rw [hp, hsize, haddr]) rfl
    | wr size addr v =>
      simp only [hostStep, State.spendTurn, hp] at h
      split at h
      · cases h
      · rename_i r hr
        obtain ⟨hsize, haddr⟩ := resolve_ok hr
        exact .write r v rest hm (by rw [hp, hsize, haddr]) h

/-- Everything a step that answers a next state can have done. -/
theorem step_next {s t : State} (h : step s = .next t) : StepCase s t := by
  unfold step advance at h
  cases hs : s.schedule with
  | nil =>
    have hsp : s.spendTurn = s := by simp [State.spendTurn, hs, State.ext_iff]
    simp only [hs, unscheduled] at h
    cases hp : s.program with
    | nil =>
      simp only [hp] at h
      exact hostStep_next (by simp [State.hostMoves, hs, hp]) (hsp.symm ▸ h)
    | cons op rest =>
      cases op with
      | waitReady =>
        simp only [hp] at h
        by_cases hb : s.busy = true
        · rw [if_pos hb] at h
          refine .tick (by rw [State.coreMoves, hs]; simp [hp, (busy_iff s).mp hb]) ?_
          rw [hsp]; cases h; rfl
        · rw [if_neg hb] at h
          exact hostStep_next (by rw [State.hostMoves, hs]; simp [hb]) (hsp.symm ▸ h)
      | rd size addr =>
        simp only [hp] at h
        exact hostStep_next (by rw [State.hostMoves, hs]; simp [hp]) (hsp.symm ▸ h)
      | wr size addr v =>
        simp only [hp] at h
        exact hostStep_next (by rw [State.hostMoves, hs]; simp [hp]) (hsp.symm ▸ h)
  | cons turn turns =>
    have hsp : s.spendTurn = { s with schedule := turns } := by simp [State.spendTurn, hs]
    cases turn with
    | host =>
      simp only [hs] at h
      exact hostStep_next (by simp [State.hostMoves, hs]) (hsp.symm ▸ h)
    | core =>
      simp only [hs] at h
      exact .tick (by simp [State.coreMoves, hs]) (by rw [hsp]; cases h; rfl)
    | reset =>
      simp only [hs] at h
      exact .reset (by simp [State.resets, hs]) (by rw [hsp]; cases h; rfl)
    | secondHost =>
      simp only [hs] at h
      cases h

/-! ## The host's turn -/

theorem step_host {s : State} {turns : List Turn} (h : s.schedule = .host :: turns) :
    step s = hostStep { s with schedule := turns } := by
  simp only [step, advance, h]

/-- With nothing scheduled the host goes on with an access (log 3). -/
theorem step_unscheduled {s : State} {op : HostOp} {rest : List HostOp} (h : s.schedule = [])
    (hp : s.program = op :: rest) (ho : op ≠ .waitReady) : step s = hostStep s := by
  cases op <;> simp_all [step, advance, unscheduled]

theorem hostStep_write {s : State} {r : Reg} {v : Word} {rest : List HostOp}
    (hp : s.program = .wr .word (s.base + r.offset) v :: rest) :
    hostStep s = busWrite r v { s with program := rest } := by
  simp only [hostStep, hp, resolve_reg]

theorem hostStep_read {s : State} {r : Reg} {rest : List HostOp}
    (hp : s.program = .rd .word (s.base + r.offset) :: rest) :
    hostStep s = .next (busRead r { s with program := rest }) := by
  simp only [hostStep, hp, resolve_reg]

/-- An access that does not resolve is refused under the reason `resolve` gives (R64). -/
theorem hostStep_refused {s : State} {size : AccessSize} {addr : Nat} {v : Word} {rest : List HostOp} {e : Refusal}
    (hp : s.program = .rd size addr :: rest ∨ s.program = .wr size addr v :: rest)
    (he : s.resolve size addr = .error e) : hostStep s = .refused e := by
  unfold hostStep
  rcases hp with hp | hp
  · rw [hp]; simp only [he]
  · rw [hp]; simp only [he]

/-- A write to CMD is a dispatch; a write to another register is that register's column of R36. -/
theorem busWrite_next {r : Reg} {v : Word} {s t : State} (h : busWrite r v s = .next t) :
    (r = .cmd ∧ dispatch v s = .next t) ∨ (r ≠ .cmd ∧ t = s.writeReg v r) := by
  cases r with
  | cmd => exact .inl ⟨rfl, h⟩
  | _ => exact .inr ⟨by simp, by cases h; rfl⟩

/-- A poll changes the host's side only. -/
theorem pollReady_frame (rest : List HostOp) (s : State) :
    pollReady rest s = { s with
      program := (pollReady rest s).program, reads := s.reads ++ [s.status] } := by
  unfold pollReady
  split <;> simp [busRead, State.readReg]

end Sys2Proof.Machine
end

