-- ==== Sys2Proof/Laws/Stream.lean ====
section
/-! SUPPORT. The keystream is a function of the keystream position alone (spec/42_state_machine.md R147,
spec/44_stream.md R190): states that agree in S, R1, R2 (and KBUF, KREM) agree after every clock (and byte). -/

namespace Sys2Proof.Machine

/-! ## The two relations -/

@[refl] theorem SameCipher.refl (s : State) : SameCipher s s := ⟨rfl, rfl, rfl⟩

theorem SameCipher.symm {s t : State} (h : SameCipher s t) : SameCipher t s :=
  ⟨h.1.symm, h.2.1.symm, h.2.2.symm⟩

theorem SameCipher.trans {s t u : State} (h : SameCipher s t) (h' : SameCipher t u) : SameCipher s u :=
  ⟨h.1.trans h'.1, h.2.1.trans h'.2.1, h.2.2.trans h'.2.2⟩

@[refl] theorem SameStream.refl (s : State) : SameStream s s := ⟨.refl s, rfl, rfl⟩

theorem SameStream.symm {s t : State} (h : SameStream s t) : SameStream t s :=
  ⟨h.1.symm, h.2.1.symm, h.2.2.symm⟩

theorem SameStream.trans {s t u : State} (h : SameStream s t) (h' : SameStream t u) : SameStream s u :=
  ⟨h.1.trans h'.1, h.2.1.trans h'.2.1, h.2.2.trans h'.2.2⟩

/-! ## Clocks -/

theorem SameCipher.keyWord {s t : State} (h : SameCipher s t) : s.keyWord = t.keyWord :=
  keyWord_congr h.1 h.2.1 h.2.2

theorem SameCipher.clockCore {s t : State} (h : SameCipher s t) (m : ClockMode) :
    SameCipher (clockCore m s) (clockCore m t) := by
  refine ⟨?_, ?_, ?_⟩
  · simp only [clockCore_lfsr, newWord_congr h.1 h.2.1 h.2.2 m, h.1]
  · simp only [clockCore_r1, h.1, h.2.2]
  · simp only [clockCore_r2, h.2.1]

theorem SameCipher.clocks {s t : State} (h : SameCipher s t) (m : ClockMode) (n : Nat) :
    SameCipher ((Machine.clockCore m)^[n] s) ((Machine.clockCore m)^[n] t) := by
  induction n generalizing s t with
  | zero => exact h
  | succ n ih => exact ih (h.clockCore m)

theorem SameCipher.dropWords {s t : State} (h : SameCipher s t) (n : Nat) :
    SameCipher (s.dropWords n) (t.dropWords n) := h.clocks .ksMode n

theorem SameCipher.ksWordAt {s t : State} (h : SameCipher s t) (n : Nat) : s.ksWordAt n = t.ksWordAt n :=
  ((h.dropWords n).clockCore .ksMode).keyWord

/-! ## Bytes -/

theorem SameStream.nextKsByte {s t : State} (h : SameStream s t) :
    (nextKsByte s).1 = (nextKsByte t).1 ∧ SameStream (nextKsByte s).2 (nextKsByte t).2 := by
  have hc := h.1.clockCore .ksMode
  by_cases hk : s.krem = 0
  · have hk' : t.krem = 0 := h.2.2 ▸ hk
    rw [nextKsByte_refill hk, nextKsByte_refill hk', hc.keyWord]
    exact ⟨rfl, hc, rfl, rfl⟩
  · have hk' : t.krem ≠ 0 := h.2.2 ▸ hk
    rw [nextKsByte_residual hk, nextKsByte_residual hk', h.2.1, h.2.2]
    exact ⟨rfl, h.1, rfl, rfl⟩

theorem SameStream.dropBytes {s t : State} (h : SameStream s t) (n : Nat) :
    SameStream (s.dropBytes n) (t.dropBytes n) := by
  induction n generalizing s t with
  | zero => exact h
  | succ n ih => exact ih h.nextKsByte.2

theorem SameStream.ksByteAt {s t : State} (h : SameStream s t) (n : Nat) : s.ksByteAt n = t.ksByteAt n :=
  (h.dropBytes n).nextKsByte.1

theorem dropBytes_succ (s : State) (n : Nat) : s.dropBytes (n + 1) = (nextKsByte s).2.dropBytes n := rfl

theorem dropBytes_add (s : State) (m n : Nat) : s.dropBytes (m + n) = (s.dropBytes m).dropBytes n := by
  rw [State.dropBytes, Nat.add_comm, Function.iterate_add_apply]
  rfl

theorem ksByteAt_add (s : State) (m n : Nat) : s.ksByteAt (m + n) = (s.dropBytes m).ksByteAt n := by
  rw [State.ksByteAt, dropBytes_add]
  rfl

/-- Taking bytes leaves PHASE alone. -/
theorem dropBytes_phase (s : State) (n : Nat) : (s.dropBytes n).phase = s.phase := by
  induction n generalizing s with
  | zero => rfl
  | succ n ih => rw [dropBytes_succ, ih, nextKsByte_frame]

/-- The four bytes of a keystream word, taken one by one (R194). -/
theorem nextKsWord_eq (s : State) :
    nextKsWord s = (be32 (s.ksByteAt 0) (s.ksByteAt 1) (s.ksByteAt 2) (s.ksByteAt 3), s.dropBytes 4) := rfl

end Sys2Proof.Machine
end

