-- ==== Sys2Proof/Laws/Tables.lean ====
section
/-! SUPPORT. The printed tables are what their formulas say (spec/40_field_arith.md R103, R104; spec/41_sbox.md
R121): a mistyped entry would make one of these proofs fail. -/

namespace Sys2Proof.Machine

/-- R103: entry `c` of MUL_A is `c` times the coefficient bytes of alpha^4. -/
theorem mulA_formula (c : Byte) :
    mulA c = be32 (gmul8 c 0xE1 Config.polyA) (gmul8 c 0x9F Config.polyA)
      (gmul8 c 0xCF Config.polyA) (gmul8 c 0x13 Config.polyA) := by
  revert c
  decide +kernel

/-- R104: entry `c` of MUL_AI is `c` times the coefficient bytes of alpha^-1. -/
theorem mulAI_formula (c : Byte) :
    mulAI c = be32 (gmul8 c 0x18 Config.polyA) (gmul8 c 0x0F Config.polyA)
      (gmul8 c 0x40 Config.polyA) (gmul8 c 0xCD Config.polyA) := by
  revert c
  decide +kernel

/-- The square of a byte in the field of the S-box. -/
def squareS (a : Byte) : Byte := mulS a a

/-- The multiplicative inverse in GF(2^8) modulo 0x11B, a^254, with the inverse of 0 taken as 0 (R121). -/
def inverseS (a : Byte) : Byte :=
  let a2 := squareS a
  let a4 := squareS a2
  let a8 := squareS a4
  let a16 := squareS a8
  let a32 := squareS a16
  let a64 := squareS a32
  mulS a2 (mulS a4 (mulS a8 (mulS a16 (mulS a32 (mulS a64 (squareS a64))))))

/-- `inverseS` is the inverse of every byte but 0, and 0 for 0. -/
theorem inverseS_spec (a : Byte) : inverseS 0 = 0 ∧ (a ≠ 0 → mulS a (inverseS a) = 1) := by
  refine ⟨by decide +kernel, ?_⟩
  revert a
  decide +kernel

/-- R121: SBOX8 is the inverse followed by the AES affine map. -/
theorem sbox8_formula (a : Byte) :
    let b := inverseS a
    sbox8 a = b ^^^ rotl8 b 1 ^^^ rotl8 b 2 ^^^ rotl8 b 3 ^^^ rotl8 b 4 ^^^ 0x63 := by
  revert a
  decide +kernel

/-- MUL_A is additive. -/
theorem mulA_xor (a b : Byte) : mulA (a ^^^ b) = mulA a ^^^ mulA b := by
  simp only [mulA_formula, gmul8_xor_left, be32_xor]

/-- MUL_AI is additive. -/
theorem mulAI_xor (a b : Byte) : mulAI (a ^^^ b) = mulAI a ^^^ mulAI b := by
  simp only [mulAI_formula, gmul8_xor_left, be32_xor]

end Sys2Proof.Machine
end

