-- ==== Sys2Proof/Laws/Substitution.lean ====
section
/-! SUPPORT. The FSM substitution is a bijection (spec/41_sbox.md R121 to R123): SBOX8 and the column mix each have
an inverse. -/

namespace Sys2Proof.Machine

/-- The inverse of SBOX8: the inverse affine map, then the inverse of the field. -/
def unsbox8 (b : Byte) : Byte := inverseS (rotl8 b 1 ^^^ rotl8 b 3 ^^^ rotl8 b 6 ^^^ 0x05)

theorem unsbox8_sbox8 (a : Byte) : unsbox8 (sbox8 a) = a := by
  revert a
  decide +kernel

/-- One lane of the inverse of the column mix. -/
def unmixLane (r0 r1 r2 r3 : Byte) : Byte := mulS r0 0x0E ^^^ mulS r1 0x0B ^^^ mulS r2 0x0D ^^^ mulS r3 0x09

theorem unmix_own (a : Byte) :
    mulS (mulS a 2) 0x0E ^^^ mulS a 0x0B ^^^ mulS a 0x0D ^^^ mulS (mulS a 3) 0x09 = a := by
  revert a
  decide +kernel

theorem unmix_next (a : Byte) :
    mulS (mulS a 3) 0x0E ^^^ mulS (mulS a 2) 0x0B ^^^ mulS a 0x0D ^^^ mulS a 0x09 = 0 := by
  revert a
  decide +kernel

theorem unmix_opposite (a : Byte) :
    mulS a 0x0E ^^^ mulS (mulS a 3) 0x0B ^^^ mulS (mulS a 2) 0x0D ^^^ mulS a 0x09 = 0 := by
  revert a
  decide +kernel

theorem unmix_previous (a : Byte) :
    mulS a 0x0E ^^^ mulS a 0x0B ^^^ mulS (mulS a 3) 0x0D ^^^ mulS (mulS a 2) 0x09 = 0 := by
  revert a
  decide +kernel

/-- The first lane is recovered from a mixed column. -/
theorem unmixLane_mix (t0 t1 t2 t3 : Byte) :
    unmixLane (mulS t0 2 ^^^ mulS t1 3 ^^^ t2 ^^^ t3) (t0 ^^^ mulS t1 2 ^^^ mulS t2 3 ^^^ t3)
      (t0 ^^^ t1 ^^^ mulS t2 2 ^^^ mulS t3 3) (mulS t0 3 ^^^ t1 ^^^ t2 ^^^ mulS t3 2) = t0 := by
  have split : ∀ a b c d k, mulS (a ^^^ b ^^^ c ^^^ d) k = mulS a k ^^^ mulS b k ^^^ mulS c k ^^^ mulS d k := by
    intro a b c d k
    simp only [mulS, gmul8_xor_left]
  rw [unmixLane, split, split, split, split]
  calc _ = (mulS (mulS t0 2) 0x0E ^^^ mulS t0 0x0B ^^^ mulS t0 0x0D ^^^ mulS (mulS t0 3) 0x09) ^^^
        (mulS (mulS t1 3) 0x0E ^^^ mulS (mulS t1 2) 0x0B ^^^ mulS t1 0x0D ^^^ mulS t1 0x09) ^^^
        (mulS t2 0x0E ^^^ mulS (mulS t2 3) 0x0B ^^^ mulS (mulS t2 2) 0x0D ^^^ mulS t2 0x09) ^^^
        (mulS t3 0x0E ^^^ mulS t3 0x0B ^^^ mulS (mulS t3 3) 0x0D ^^^ mulS (mulS t3 2) 0x09) := by ac_rfl
    _ = t0 := by rw [unmix_own, unmix_next, unmix_opposite, unmix_previous]; simp

/-- The column mix loses nothing. -/
theorem mixColumn_injective {t0 t1 t2 t3 u0 u1 u2 u3 : Byte} (h : mixColumn t0 t1 t2 t3 = mixColumn u0 u1 u2 u3) :
    t0 = u0 ∧ t1 = u1 ∧ t2 = u2 ∧ t3 = u3 := by
  have h0 := congrArg (byteOf 0) h
  have h1 := congrArg (byteOf 1) h
  have h2 := congrArg (byteOf 2) h
  have h3 := congrArg (byteOf 3) h
  simp only [mixColumn, byteOf_be32_0, byteOf_be32_1, byteOf_be32_2, byteOf_be32_3] at h0 h1 h2 h3
  have e0 := unmixLane_mix t0 t1 t2 t3
  have e1 := unmixLane_mix t1 t2 t3 t0
  have e2 := unmixLane_mix t2 t3 t0 t1
  have e3 := unmixLane_mix t3 t0 t1 t2
  have f0 := unmixLane_mix u0 u1 u2 u3
  have f1 := unmixLane_mix u1 u2 u3 u0
  have f2 := unmixLane_mix u2 u3 u0 u1
  have f3 := unmixLane_mix u3 u0 u1 u2
  refine ⟨?_, ?_, ?_, ?_⟩
  · rw [← e0, ← f0, h0, h1, h2, h3]
  all_goals
    first
      | rw [← e1, ← f1]
      | rw [← e2, ← f2]
      | rw [← e3, ← f3]
    congr 1
    all_goals
      first
        | (refine Eq.trans ?_ (h0.trans ?_) <;> ac_rfl)
        | (refine Eq.trans ?_ (h1.trans ?_) <;> ac_rfl)
        | (refine Eq.trans ?_ (h2.trans ?_) <;> ac_rfl)
        | (refine Eq.trans ?_ (h3.trans ?_) <;> ac_rfl)

/-- The FSM substitution loses nothing. -/
theorem sfsm_injective : Function.Injective sfsm := by
  intro u v h
  obtain ⟨h0, h1, h2, h3⟩ := mixColumn_injective h
  have s : ∀ a b, sbox8 a = sbox8 b → a = b := by
    intro a b hab
    rw [← unsbox8_sbox8 a, hab, unsbox8_sbox8]
  exact word_ext (s _ _ h3) (s _ _ h2) (s _ _ h1) (s _ _ h0)

theorem sfsm_bijective : Function.Bijective sfsm := Finite.injective_iff_bijective.mp sfsm_injective

end Sys2Proof.Machine
end

