-- ==== Sys2Proof/Machine/Assembler.lean ====
section
/-! DEFINITION. The host's assembler notation (spec/30_encoding.md R88, R89): register names stand for offsets from
BASE, and each pseudo-instruction is the list of host operations it expands to. -/

namespace Sys2Proof.Machine

/-- `wr REG, imm32` (R88). -/
def asmWr (base : Nat) (r : Reg) (v : Word) : List HostOp := [.wr .word (base + r.offset) v]

/-- `rd REG` (R88). -/
def asmRd (base : Nat) (r : Reg) : List HostOp := [.rd .word (base + r.offset)]

/-- `cmdw imm32`: any command word, including illegal ones (R89). -/
def asmCmdw (base : Nat) (w : Word) : List HostOp := asmWr base .cmd w

/-- `nop`, `setup klen, ivlen`, `xorb`, `xorw`, `mula`, `mulai` and `sbox`: the command's word to CMD (R89). -/
def asmCommand (base : Nat) (i : Instr) : List HostOp := asmCmdw base (encode i)

/-- `key128 k0, k1, k2, k3` (R89). -/
def asmKey128 (base : Nat) (k0 k1 k2 k3 : Word) : List HostOp :=
  asmWr base (.key 0) k0 ++ asmWr base (.key 1) k1 ++ asmWr base (.key 2) k2 ++ asmWr base (.key 3) k3

/-- `key256 k0, ..., k7` (R89). -/
def asmKey256 (base : Nat) (k0 k1 k2 k3 k4 k5 k6 k7 : Word) : List HostOp :=
  asmKey128 base k0 k1 k2 k3 ++
    (asmWr base (.key 4) k4 ++ asmWr base (.key 5) k5 ++ asmWr base (.key 6) k6 ++ asmWr base (.key 7) k7)

/-- `iv i0, i1, i2, i3` (R89). -/
def asmIv (base : Nat) (i0 i1 i2 i3 : Word) : List HostOp :=
  asmWr base (.iv 0) i0 ++ asmWr base (.iv 1) i1 ++ asmWr base (.iv 2) i2 ++ asmWr base (.iv 3) i3

/-- `wait_ready` (R89). -/
def asmWaitReady : List HostOp := [.waitReady]

end Sys2Proof.Machine
end

