-- ==== Sys2Proof/Tests/Slice0.lean ====
section
/-! SUPPORT. Tests of one step each, with results taken from the tables and examples of spec/ (cited at each test),
and a witness for the hypotheses of every statement in Sys2Proof/Certificates/Slice0/Obligations.lean that has any. -/

namespace Sys2Proof.Tests

open Sys2Proof.Machine

/-! ## Helpers -/

/-- The result is a next state with the property. -/
def answers (r : Result) (p : State → Bool) : Bool :=
  match r with
  | .next t => p t
  | .fault _ => false
  | .refused _ => false

/-- The result is a refusal for this reason. -/
def refusedFor (r : Result) (e : Refusal) : Bool :=
  match r with
  | .next _ => false
  | .fault _ => false
  | .refused e' => e' == e

/-- A small machine in some phase, with some DIN. -/
def at_ (p : Phase) (din : Word) : State :=
  { State.reset with phase := p, din := din, icnt := if p = .ready then 32 else 0 }

/-- One INIT state, just loaded, and one with a single TICK left. -/
def loaded : State := at_ .init 0
def lastTick : State := { loaded with icnt := 31 }

/-- A READY state with `k` residual bytes of the word 0x8D590AE9 (95_test_vectors.md section 7). -/
def residual (k : BitVec 2) (din : Word) : State := { at_ .ready din with kbuf := 0x8D590AE9, krem := k }

/-- A machine at BASE 0x1000 whose next operation is `op` and whose next turn is the host's. -/
def facing (op : HostOp) : State := { at_ .ready 7 with base := 0x1000, program := [op], schedule := [.host] }

/-! ## Well-formedness: one ill-formed term per check (30_encoding.md R82) -/

theorem test_wellFormed_boundary : (Instr.setup 255 255).WellFormed ∧ (Instr.setup 0 0).WellFormed ∧
    Instr.nop.WellFormed := by decide
theorem test_illFormed_klen : ¬ (Instr.setup 256 16).WellFormed := by decide
theorem test_illFormed_ivlen : ¬ (Instr.setup 16 256).WellFormed := by decide

/-! ## Decoding words written out from the format of 30_encoding.md R80 (RSV, IVLEN, KLEN, OP) -/

theorem test_decode_nop : decode 0b00000000000000000000000000000000 = .ok .nop := by decide
theorem test_decode_setup128 : decode 0b00000000000100000001000000000001 = .ok (.setup 16 16) := by decide
theorem test_decode_setup_fields : decode 0b00000000000010000001100000000001 = .ok (.setup 24 8) := by decide
theorem test_decode_xorb : decode 0b00000000000000000000000000000010 = .ok .xorb := by decide
theorem test_decode_xorw : decode 0b00000000000000000000000000000011 = .ok .xorw := by decide
theorem test_decode_mula : decode 0b00000000000000000000000000010000 = .ok .mula := by decide
theorem test_decode_mulai : decode 0b00000000000000000000000000010001 = .ok .mulai := by decide
theorem test_decode_sbox : decode 0b00000000000000000000000000010010 = .ok .sbox := by decide

/-- R84, the edges of the reserved opcodes and of both reserved fields. -/
theorem test_decode_illegal :
    decode 0x00000004 = .error .reservedOpcode ∧ decode 0x0000000F = .error .reservedOpcode ∧
    decode 0x00000013 = .error .reservedOpcode ∧ decode 0x000000FF = .error .reservedOpcode ∧
    decode 0x00000100 = .error .nonzeroOperandBits ∧ decode 0x80000012 = .error .nonzeroOperandBits ∧
    decode 0x01101001 = .error .nonzeroReservedBits := by decide

/-- The table's word order: bit 0 of the first word is bit 0 of the command (30_encoding.md R80). -/
theorem test_decodeTableWord : decodeTableWord 32 0x00102001 = some (.setup 32 16) ∧
    decodeTableWord 32 0x80000010 = none := by decide

/-! ## One step of each command -/

/-- R210: NOP clears a code left by a rejected SETUP 24, 16. -/
theorem test_nop : answers (exec .nop { at_ .unkeyed 0 with err := .keySize }) (fun t => t.err == .ok) = true := by
  decide

/-- R161: KLEN 24 is E_KEYSIZE, also with a wrong IVLEN; IVLEN 8 is E_IVSIZE. -/
theorem test_setup_lengths :
    answers (exec (.setup 24 8) State.reset) (fun t => t.err == .keySize) = true ∧
    answers (exec (.setup 32 8) State.reset) (fun t => t.err == .ivSize) = true := by decide

/-- R167: the load of KEY = 80000000 0 0 0 and IV 0. -/
theorem test_setup_load :
    answers (exec (.setup 16 16) { State.reset with key := #v[0x80000000, 0, 0, 0, 0, 0, 0, 0] })
      (fun t => t.lfsr == #v[0xFFFFFFFF, 0xFFFFFFFF, 0xFFFFFFFF, 0x7FFFFFFF, 0, 0, 0, 0x80000000,
        0xFFFFFFFF, 0xFFFFFFFF, 0xFFFFFFFF, 0x7FFFFFFF, 0, 0, 0, 0x80000000] && t.status == 3) = true := by
  decide +kernel

/-- R190, R192: byte 2 of KBUF at KREM = 3, DIN[31:8] ignored. -/
theorem test_xorb_residual :
    answers (exec .xorb (residual 3 0xFFFFFF11)) (fun t => t.dout == 0x48 && t.krem == 2) = true := by
  decide +kernel

/-- R141, R143, R192: at KREM = 0 the all-zero state is clocked once; Z of the new state is 0x63636363. -/
theorem test_xorb_refill :
    answers (exec .xorb (residual 0 0)) (fun t => t.dout == 0x63 && t.krem == 3 && t.kbuf == 0x63636363) = true := by
  decide +kernel

/-- R194: at KREM = 0 a whole word, at KREM = 1 one byte of the old word before three of the new. -/
theorem test_xorw_aligned :
    answers (exec .xorw (residual 0 0x63000000)) (fun t => t.dout == 0x00636363 && t.krem == 0) = true := by
  decide +kernel
theorem test_xorw_across :
    answers (exec .xorw (residual 1 0)) (fun t => t.dout == 0xE9636363 && t.krem == 1) = true := by
  decide +kernel

/-- R107: reduction by the top byte, and none. -/
theorem test_mula :
    answers (exec .mula (at_ .unkeyed 0x80000000)) (fun t => t.dout == 0x50358897) = true ∧
    answers (exec .mula (at_ .ready 0x00FFFFFF)) (fun t => t.dout == 0xFFFFFF00) = true := by decide +kernel

/-- R108. -/
theorem test_mulai :
    answers (exec .mulai (at_ .unkeyed 0x12345678)) (fun t => t.dout == 0x1F41FB0D) = true ∧
    answers (exec .mulai (at_ .ready 0x00000100)) (fun t => t.dout == 1) = true := by decide +kernel

/-- R124: the lane order. -/
theorem test_sbox :
    answers (exec .sbox (at_ .unkeyed 0x00000001)) (fun t => t.dout == 0x427C7C5D) = true ∧
    answers (exec .sbox (at_ .ready 0x01000000)) (fun t => t.dout == 0x5D427C7C) = true := by decide +kernel

/-! ## The host's side -/

/-- `withFetchWord` makes the very next step run the command, from reset (R34). -/
theorem test_withFetchWord :
    answers (step (State.reset.withFetchWord 32 0x00000010)) (fun t => t.err == .ok && t.program == []) = true ∧
    answers (step (State.reset.withFetchWord 32 0x00000013)) (fun t => t.err == .illegal) = true := by decide +kernel

/-- R36, R37: DIN reads back, KEY reads 0; a poll while BUSY stays. -/
theorem test_read :
    answers (step (facing (.rd .word 0x1008))) (fun t => t.reads == [7]) = true ∧
    answers (step (facing (.rd .word 0x1010))) (fun t => t.reads == [0]) = true := by decide +kernel
theorem test_poll :
    answers (step { lastTick with program := asmWaitReady, schedule := [.host] })
      (fun t => t.reads == [0x001F0003] && t.program == [.waitReady]) = true := by decide +kernel

/-- R89: the expansion of `setup 32, 16` and of `iv`. -/
theorem test_assembler :
    asmCommand 0x40 (.setup 32 16) = [.wr .word 0x40 0x00102001] ∧
    asmIv 0 1 2 3 4 = [.wr .word 0x30 1, .wr .word 0x34 2, .wr .word 0x38 3, .wr .word 0x3C 4] := by decide

/-! ## Witnesses: for each statement with hypotheses, values that meet them -/

theorem test_w_EncodeAfterDecode : ∃ i, decode 0x00FFFF01 = .ok i := ⟨.setup 255 255, by decide⟩

theorem test_w_TableWordsDecode : State.reset.phase ≠ .init ∧ (at_ .ready 0).phase ≠ .init := by decide

theorem test_w_OpcodeMapSelectsOneRow : ∃ r ∈ opcodeMap, r.selects 0x00FFFF01 = true := by decide

theorem test_w_IllegalWordsAreRejected : ∃ e, State.reset.phase ≠ .init ∧ decode 0x00000013 = .error e :=
  ⟨.reservedOpcode, by decide⟩

theorem test_w_DispatchIsTotal : loaded.phase = .init ∧ (at_ .ready 0).phase ≠ .init ∧
    decode 0x01101001 = .error .nonzeroReservedBits ∧ decode 0x00000003 = .ok .xorw := by decide

/-- The program and both forms of the schedule. -/
theorem test_w_StepRunsTheDecodedCommand :
    decode 0x00000012 = .ok .sbox ∧ (facing (.wr .word 0x1000 0x12)).program = [.wr .word (0x1000 : Nat) 0x12] ∧
    (facing (.wr .word 0x1000 0x12)).schedule = [.host] ∧
    ({ facing (.wr .word 0x1000 0x12) with schedule := [] } : State).schedule = [] := by decide

theorem test_w_BusyRejectsEveryWord : loaded.phase = .init ∧ lastTick.phase = .init := by decide

theorem test_w_ErrorPriority : (at_ .unkeyed 0).phase ≠ .init ∧ decode 0x00000002 = .ok .xorb ∧
    decode 0x00000003 = .ok .xorw ∧ decode 0x00081801 = .ok (.setup 24 8) ∧
    decode 0x000F2001 = .ok (.setup 32 15) := by decide

theorem test_w_RejectionChangesOnlyErr :
    answers (dispatch 0x00000002 State.reset) (fun t => t.err != .ok) = true := by decide +kernel

theorem test_w_ErrChangesOnlyAtCommands :
    answers (step (State.reset.withFetchWord 32 2)) (fun t => t.err != State.reset.err) = true := by decide +kernel

/-- Every row of R221. -/
theorem test_w_ErrorCauses :
    answers (dispatch 0 loaded) (fun t => t.err == .busy) = true ∧
    answers (dispatch 4 State.reset) (fun t => t.err == .illegal) = true ∧
    answers (dispatch 3 State.reset) (fun t => t.err == .notReady) = true ∧
    answers (dispatch 0x00101101 State.reset) (fun t => t.err == .keySize) = true ∧
    answers (dispatch 0x00111001 State.reset) (fun t => t.err == .ivSize) = true := by decide +kernel

/-- NOP, MULA, MULAI, SBOX, XORB and XORW: busy, not busy, and a word of theirs with an upper bit set. -/
theorem test_w_FormatC0Command : loaded.phase = .init ∧ (at_ .ready 1).phase ≠ .init ∧
    opField 0x80000000 = opField 0x00000000 ∧ (0x80000000 : Word) >>> 8 ≠ 0 ∧
    opField 0x00000102 = opField 0x00000002 ∧ (0x00000102 : Word) >>> 8 ≠ 0 ∧
    opField 0x00FF0003 = opField 0x00000003 ∧ (0x00FF0003 : Word) >>> 8 ≠ 0 ∧
    opField 0x01000010 = opField 0x00000010 ∧ (0x01000010 : Word) >>> 8 ≠ 0 ∧
    opField 0x00000111 = opField 0x00000011 ∧ (0x00000111 : Word) >>> 8 ≠ 0 ∧
    opField 0x80000012 = opField 0x00000012 ∧ (0x80000012 : Word) >>> 8 ≠ 0 := by decide

theorem test_w_MulaiRule : answers (exec .mula (at_ .unkeyed 5)) (fun _ => true) = true := by decide +kernel

theorem test_w_SetupRule : (0x00FFFF01 : Word) &&& 0xFF0000FF = 0x00000001 ∧
    decode 0x00102001 = .ok (.setup 32 16) ∧ LegalLengths 32 16 ∧ LegalLengths 16 16 ∧ ¬ LegalLengths 24 16 ∧
    opField 0x01101001 = 0x01 ∧ (0x01101001 : Word) >>> 24 ≠ 0 ∧ loaded.phase = .init ∧
    (at_ .ready 0).phase ≠ .init ∧ ((15 : Nat) ≠ 16 ∧ (15 : Nat) ≠ 32) := by decide

theorem test_w_SetupLoadsTheCipherState : (at_ .unkeyed 0).phase ≠ .init ∧ (at_ .ready 0).phase ≠ .init := by decide

theorem test_w_NextKsByteRule : (residual 0 0).krem = 0 ∧ (residual 1 0).krem = 1 ∧ (residual 2 0).krem = 2 ∧
    (residual 3 0).krem = 3 ∧
    answers (step ((residual 3 0).withCommand 2)) (fun t => t.krem != 3) = true := by decide +kernel

/-- XorbRule, XorwRule and XorwIsFourXorbs. -/
theorem test_w_XorbRule_XorwRule : (at_ .unkeyed 0).phase = .unkeyed ∧ (residual 0 0).phase = .ready ∧
    (residual 3 0).krem ≠ 0 ∧ (residual 0 0x11).din.extractLsb' 0 8 = (0xFFFFFF11 : Word).extractLsb' 0 8 := by
  decide

theorem test_w_TestAccessFrame : ∀ i ∈ [Instr.nop, .mula, .mulai, .sbox],
    answers (exec i (at_ .ready 1)) (fun t => t.err == .ok) = true := by decide +kernel

theorem test_w_StreamFrame : ∀ i ∈ [Instr.xorb, .xorw],
    answers (exec i (residual 3 1)) (fun t => t.err == .ok) = true ∧
    answers (exec i (at_ .unkeyed 1)) (fun t => t.err == .notReady) = true := by decide +kernel

theorem test_w_SetupFrame :
    answers (exec (.setup 32 16) (residual 3 1)) (fun t => t.err == .ok) = true ∧
    answers (exec (.setup 32 32) (residual 3 1)) (fun t => t.err == .ivSize) = true ∧
    answers (exec (.setup 32 16) loaded) (fun t => t.err == .busy) = true := by decide +kernel

theorem test_w_MultiplierLaws : byteOf 3 0x00FFFFFF = 0 ∧ byteOf 0 0xFFFFFF00 = 0 := by decide

theorem test_w_ClockCoreRule : State.reset.lfsr = Vector.replicate 16 0 ∧ State.reset.r1 = 0 ∧
    State.reset.r2 = 0 := by decide

/-- TickRule and InitTakesThirtyTwoTicks. -/
theorem test_w_TickRule : (at_ .ready 0).phase ≠ .init ∧ lastTick.phase = .init ∧ lastTick.icnt = 31 ∧
    LegalLengths 16 16 ∧ answers (exec (.setup 16 16) (at_ .ready 0)) (fun t => t.phase == .init) = true := by
  decide +kernel

theorem test_w_ByteStreamIsTheWordStream : (at_ .ready 0).krem = 0 := by decide

theorem quiet_of (w : Word) (i : Instr) (h : decode w = .ok i)
    (hi : i ≠ .xorb ∧ i ≠ .xorw ∧ ∀ k v, i = .setup k v → ¬ LegalLengths k v) : Quiet w := by
  intro j hj
  rw [h] at hj
  cases hj
  exact hi

/-- NOP and a SETUP with a wrong length are quiet. -/
theorem test_w_QuietCommandsKeepTheStream : Quiet 0x00000000 ∧ Quiet 0x00101801 ∧
    answers (dispatch 0x00101801 (residual 3 0)) (fun t => t.err != .ok) = true := by
  refine ⟨quiet_of _ .nop (by decide) (by simp), quiet_of _ (.setup 24 16) (by decide) ?_, by decide +kernel⟩
  simp [LegalLengths]

theorem test_w_ChunkingInvariance : (residual 1 0).phase = .ready ∧
    ∀ c ∈ [Chunk.byte 0x11, .other 0 5, .word 1 2 3 4], c.KeepsStream := by
  refine ⟨by decide, fun c hc => ?_⟩
  simp only [List.mem_cons, List.not_mem_nil, or_false] at hc
  rcases hc with rfl | rfl | rfl
  · trivial
  · exact test_w_QuietCommandsKeepTheStream.1
  · trivial

/-- The example of R192 both ways: 0x11 becomes 0x9C, and 0x9C becomes 0x11, under the first known-answer key. -/
theorem test_w_RoundTrip :
    let s : State := { State.reset with key := #v[0x80000000, 0, 0, 0, 0, 0, 0, 0] }
    let u := s.afterSetup 16
    (s.phase ≠ .init ∧ LegalLengths 16 16 ∧ feedData [.byte 0x9C] = [0x9C]) ∧
    (feed [.byte 0x11] u).map Prod.fst = some [0x9C] ∧ (feed [.byte 0x9C] u).map Prod.fst = some [0x11] := by
  decide +kernel

/-- Two states with the same IV and the same first four key words, different in all else. -/
theorem test_w_KeystreamDependsOnKeyAndIvAlone :
    let s : State := { State.reset with key := #v[1, 2, 3, 4, 0, 0, 0, 0] }
    let t : State := { residual 3 9 with key := #v[1, 2, 3, 4, 5, 6, 7, 8] }
    s.phase ≠ .init ∧ t.phase ≠ .init ∧ LegalLengths 16 16 ∧ s.iv = t.iv ∧
    (∀ i : Fin 8, i.val < 4 ∨ 16 = 32 → s.key[i] = t.key[i]) := by decide

/-- A read and a write of every register of the window, first and last offset among them (ReadReturnsTheRegister,
WriteDoesItsColumn). -/
theorem test_w_WindowAccesses : ∀ r ∈ [Reg.cmd, .status, .din, .dout, .key 0, .key 7, .iv 0, .iv 3],
    (facing (.rd .word (0x1000 + r.offset))).schedule = [.host] ∧
    (facing (.rd .word (0x1000 + r.offset))).program = [.rd .word ((facing .waitReady).base + r.offset)] ∧
    answers (step (facing (.rd .word (0x1000 + r.offset)))) (fun t => t.reads.length == 1) = true ∧
    answers (step (facing (.wr .word (0x1000 + r.offset) 0))) (fun t => t.program == []) = true := by decide +kernel

/-- Both sides of the second clause at its edges. -/
theorem test_w_WindowMap : regAt 0x00 = some .cmd ∧ regAt 0x3C = some (.iv 3) ∧ regAt 0x3D = none ∧
    regAt 0x40 = none ∧ regAt 0x2C = some (.key 7) := by decide

/-- Where the clauses meet: below BASE, the first and last register, the last three bytes, the first byte above. -/
theorem test_w_UndefinedAccessesAreRefused :
    refusedFor (step (facing (.rd .half 0x1000))) .narrowAccess = true ∧
    refusedFor (step (facing (.wr .byte 0x1040 1))) .narrowAccess = true ∧
    refusedFor (step (facing (.rd .word 0x0FFF))) .outsideWindow = true ∧
    refusedFor (step (facing (.rd .word 0x1040))) .outsideWindow = true ∧
    refusedFor (step (facing (.wr .word 0x103D 1))) .misalignedAccess = true ∧
    refusedFor (step (facing (.wr .word 0x103F 1))) .misalignedAccess = true ∧
    answers (step (facing (.rd .word 0x1000))) (fun _ => true) = true ∧
    answers (step (facing (.rd .word 0x103C))) (fun _ => true) = true := by decide +kernel

theorem test_w_SecondHostIsRefused :
    refusedFor (step { State.reset with schedule := [.secondHost] }) .secondHost = true := by decide

theorem test_w_ReadsRevealOnlyTheWindow :
    let t : State := { State.reset with r1 := 5, kbuf := 6, key := Vector.replicate 8 7 }
    State.reset.phase = t.phase ∧ State.reset.krem = t.krem ∧ State.reset.icnt = t.icnt ∧
    State.reset.err = t.err ∧ State.reset.din = t.din ∧ State.reset.dout = t.dout ∧ State.reset ≠ t := by decide

theorem lastTick_inv : lastTick.Inv := ⟨by decide, by decide, by decide, by decide, by decide⟩

/-- The step across the last boundary of ICNT. -/
theorem test_w_StepKeepsInv : lastTick.Inv ∧
    answers (step { lastTick with schedule := [.core] }) (fun t => t.phase == .ready && t.icnt == 32) = true :=
  ⟨lastTick_inv, by decide +kernel⟩

/-- Each transition of PHASE, taken. -/
theorem test_w_PhaseTransitions :
    ({ lastTick with schedule := [.reset] } : State).resets = true ∧
    answers (step { lastTick with schedule := [.reset] }) (fun t => t.phase == .unkeyed) = true ∧
    answers (step (State.reset.withFetchWord 32 0x00101001)) (fun t => t.phase == .init) = true ∧
    (lastTick.phase = .init ∧ lastTick.icnt = 31) := by decide +kernel

/-- A step of each kind that changes R2 (a reset, a TICK, a SETUP, an XORB), KREM (a reset, a SETUP, an XORB), KBUF
(an XORW) and ICNT (a reset, a TICK, a SETUP). -/
theorem test_w_CipherStateWriters :
    answers (step { residual 0 0 with r2 := 1, schedule := [.reset] }) (fun t => t.r2 != 1) = true ∧
    answers (step { loaded with schedule := [.core] }) (fun t => t.r2 != 0) = true ∧
    answers (step (({ residual 0 0 with r2 := 1 } : State).withCommand 0x00101001)) (fun t => t.r2 != 1) = true ∧
    answers (step ((residual 0 0).withCommand 2)) (fun t => t.r2 != 0) = true ∧
    answers (step { residual 3 0 with schedule := [.reset] }) (fun t => t.krem != 3 && t.icnt != 32) = true ∧
    answers (step ((residual 3 0).withCommand 0x00102001)) (fun t => t.krem != 3 && t.icnt != 32) = true ∧
    answers (step ((residual 3 0).withCommand 2)) (fun t => t.krem != 3) = true ∧
    answers (step ((residual 3 0).withCommand 3)) (fun t => t.kbuf != 0x8D590AE9) = true ∧
    answers (step { loaded with schedule := [.core] }) (fun t => t.icnt != 0) = true := by decide +kernel

/-- A step that changes DOUT, by a command and by a reset, and a command of each kind that ends with OK. -/
theorem test_w_DoutWriters :
    answers (dispatch 0x02 (residual 3 1)) (fun t => t.dout != 0 && t.err == .ok) = true ∧
    answers (dispatch 0x03 (residual 3 1)) (fun t => t.dout != 0 && t.err == .ok) = true ∧
    answers (dispatch 0x10 (residual 3 1)) (fun t => t.dout != 0 && t.err == .ok) = true ∧
    answers (dispatch 0x11 (residual 3 1)) (fun t => t.dout != 0 && t.err == .ok) = true ∧
    answers (dispatch 0x12 (residual 3 1)) (fun t => t.dout != 0 && t.err == .ok) = true ∧
    answers (step ((residual 3 1).withCommand 0x12)) (fun t => t.dout != 0) = true ∧
    answers (step { residual 3 1 with dout := 9, schedule := [.reset] }) (fun t => t.dout != 9) = true := by
  decide +kernel

theorem test_w_OperandRegisterWriters :
    answers (step (facing (.wr .word 0x1008 5))) (fun t => t.din == 5) = true ∧
    answers (step (facing (.wr .word 0x102C 5))) (fun t => t.key[7] == 5) = true ∧
    answers (step (facing (.wr .word 0x103C 5))) (fun t => t.iv[3] == 5) = true ∧
    (facing (.wr .word 0x1008 5)).resets = false := by decide +kernel

theorem test_w_ResetStep : ({ residual 3 1 with schedule := [.reset, .host] } : State).schedule =
    .reset :: [.host] := by decide

theorem test_w_EnvironmentFrame :
    answers (step { facing .waitReady with schedule := [] }) (fun t => t.program == [] && t.reads.length == 1) =
      true := by decide +kernel

/-- Two different states that a host cannot tell apart. -/
theorem test_w_HiddenStateIsUnobservable :
    let t : State := { State.reset with r1 := 5, r2 := 6, kbuf := 7 }
    SameButHidden State.reset t ∧ State.reset ≠ t := by
  refine ⟨⟨rfl, rfl, rfl, rfl, rfl, rfl, rfl, rfl, rfl, rfl, rfl, rfl, ?_⟩, by decide⟩
  intro h
  exact absurd rfl h

/-- The two reset blocks of ResetObservations differ. -/
theorem test_w_ResetObservations :
    ({ (residual 3 1).resetBlock with r1 := 5 } : State) ≠ (residual 3 1).resetBlock := by decide

/-- Both clauses, with one TICK still missing, in the first a poll before it, and an access and a reset after. -/
theorem test_w_WaitReadyEnds :
    let s : State := { lastTick with
      program := .waitReady :: [.rd .word 4], schedule := [.host, .core] ++ .host :: [.reset] }
    s.Inv ∧ s.phase = .init ∧ s.program = .waitReady :: [.rd .word 4] ∧
    (∀ x ∈ [Turn.host, .core], x = .host ∨ x = .core) ∧
    32 - s.icnt.toNat ≤ [Turn.host, .core].count .core ∧ s.err = .ok ∧
    ({ s with schedule := [] } : State).schedule = [] :=
  ⟨⟨by decide, by decide, by decide, by decide, by decide⟩, by decide⟩

end Sys2Proof.Tests
end

section
/-! SUPPORT AND PROOFS. The byte product of R10 (spec/00_scope.md) as a product of polynomials over GF(2). -/

namespace Sys2Proof
open Machine Polynomial

/-! ## Bit vectors as polynomials over GF(2) (R100) -/

/-- The first `n` bits of a vector as a polynomial over GF(2), bit `i` the coefficient of x^i (R100). -/
noncomputable def bitPoly {w : Nat} (n : Nat) (v : BitVec w) : (ZMod 2)[X] :=
  ∑ i ∈ Finset.range n, if v.getLsbD i then X ^ i else 0

theorem bitPoly_succ_top {w : Nat} (n : Nat) (v : BitVec w) :
    bitPoly (n + 1) v = bitPoly n v + if v.getLsbD n then X ^ n else 0 :=
  Finset.sum_range_succ ..

/-- Bit 0 is the constant term, and the other bits are the shifted vector times x. -/
theorem bitPoly_succ_bottom {w : Nat} (n : Nat) (v : BitVec w) :
    bitPoly (n + 1) v = (if v.getLsbD 0 then (1 : (ZMod 2)[X]) else 0) + X * bitPoly n (v >>> 1) := by
  rw [bitPoly, Finset.sum_range_succ', pow_zero, add_comm, bitPoly, Finset.mul_sum]
  congr 1
  refine Finset.sum_congr rfl fun i _ => ?_
  rw [BitVec.getLsbD_ushiftRight, Nat.add_comm 1 i, mul_ite, mul_zero, pow_succ']

theorem bitPoly_congr {w w' n : Nat} {u : BitVec w} {v : BitVec w'}
    (h : ∀ i < n, u.getLsbD i = v.getLsbD i) : bitPoly n u = bitPoly n v :=
  Finset.sum_congr rfl fun i hi => by rw [h i (Finset.mem_range.mp hi)]

/-- Over GF(2), the exclusive or of bits is the sum of polynomials. -/
theorem bitPoly_xor {w : Nat} (n : Nat) (u v : BitVec w) :
    bitPoly n (u ^^^ v) = bitPoly n u + bitPoly n v := by
  rw [bitPoly, bitPoly, bitPoly, ← Finset.sum_add_distrib]
  refine Finset.sum_congr rfl fun i _ => ?_
  rw [BitVec.getLsbD_xor]
  cases u.getLsbD i <;> cases v.getLsbD i <;> simp [CharTwo.add_self_eq_zero]

@[simp] theorem bitPoly_zero_vec {w : Nat} (n : Nat) : bitPoly n (0#w) = 0 := by
  simp [bitPoly]

/-- A left shift by one place is the product with x, without the bit shifted out. -/
theorem bitPoly_shiftLeft_one (a : Byte) : bitPoly 8 (a <<< 1) = X * bitPoly 7 a := by
  have hbit : (a <<< 1).getLsbD 0 = false := by simp
  have hback : bitPoly 7 (a <<< 1 >>> 1) = bitPoly 7 a := by
    apply bitPoly_congr
    intro i hi
    simpa using by omega
  rw [bitPoly_succ_bottom, hbit, hback]
  simp

/-! ## The byte product modulo P -/

/-- `xtime` is the product with x, less `p` where the byte has degree 7; `p` is any polynomial of degree 8. -/
theorem X_mul_bitPoly_eq_xtime (a : Byte) (p : BitVec 9) (hp : p.getLsbD 8) :
    ∃ c, X * bitPoly 8 a = bitPoly 9 p * c + bitPoly 8 (xtime a p) := by
  have hP : bitPoly 9 p = bitPoly 8 (p.setWidth 8) + X ^ 8 := by
    rw [bitPoly_succ_top, if_pos hp]
    congr 1
    apply bitPoly_congr
    intro i hi
    simp [hi]
  have hA : X * bitPoly 8 a = bitPoly 8 (a <<< 1) + if a.msb then X ^ 8 else 0 := by
    have hmsb : a.msb = a.getLsbD 7 := BitVec.msb_eq_getLsbD_last a
    rw [bitPoly_succ_top 7, bitPoly_shiftLeft_one, hmsb]
    split <;> ring
  rw [hA, xtime]
  split
  · refine ⟨1, ?_⟩
    rw [bitPoly_xor, hP]
    linear_combination -(CharTwo.add_self_eq_zero (bitPoly 8 (p.setWidth 8)))
  · exact ⟨0, by simp⟩

/-- The first `n` bits of `b` give the product with the polynomial of those bits, modulo `p`. -/
theorem bitPoly_mul_eq_gmul8Sum (p : BitVec 9) (hp : p.getLsbD 8) (n : Nat) (a b : Byte) :
    ∃ q, bitPoly 8 a * bitPoly n b = bitPoly 9 p * q + bitPoly 8 (gmul8Sum p n a b) := by
  induction n generalizing a b with
  | zero => exact ⟨0, by simp [bitPoly, gmul8Sum]⟩
  | succ n ih =>
    obtain ⟨q, hq⟩ := ih (xtime a p) (b >>> 1)
    obtain ⟨c, hc⟩ := X_mul_bitPoly_eq_xtime a p hp
    have hbit : bitPoly 8 (if b.getLsbD 0 then a else 0) = bitPoly 8 a * if b.getLsbD 0 then 1 else 0 := by
      split <;> simp
    refine ⟨c * bitPoly n (b >>> 1) + q, ?_⟩
    rw [bitPoly_succ_bottom n b, gmul8Sum, bitPoly_xor, hbit]
    linear_combination bitPoly n (b >>> 1) * hc + hq

/-- R10: `xtime` is the product by 0x02, modulo every `p`. -/
theorem xtime_eq_gmul8_two (a : Byte) (p : BitVec 9) : xtime a p = gmul8 a 0x02 p := by
  simp [gmul8, gmul8Sum]

/-- Settles O25: the sum of `a·x^i` over the bits of `b`, by induction on the number of bits taken. -/
theorem gmulIsThePolynomialProduct : Obligations.GmulIsThePolynomialProduct := by
  unfold Obligations.GmulIsThePolynomialProduct
  intro poly a b p hp
  have hdegree : p.getLsbD 8 := by rcases hp with rfl | rfl <;> decide
  exact ⟨bitPoly_mul_eq_gmul8Sum p hdegree 8 a b, xtime_eq_gmul8_two a p⟩

end Sys2Proof
end

section
/-! SUPPORT AND PROOFS. The registers of spec/10_state.md: their values at reset (R41), the fields of STATUS (R35)
and the accesses to the window (R37, R38). -/

namespace Sys2Proof
open Machine

/-! ## Reset (R41) -/

/-- Settles O54: the table of R41 is one closed state, read off entry by entry. -/
theorem resetValues : Obligations.ResetValues := by
  unfold Obligations.ResetValues
  decide

/-! ## STATUS (R35) -/

/-- A word that holds `v` from bit `k` up, and 0 elsewhere. -/
def fieldAt {n : Nat} (k : Nat) (v : BitVec n) : Word := v.setWidth 32 <<< k

theorem fieldAt_extract_same {n : Nat} (k : Nat) (v : BitVec n) (h : k + n ≤ 32) :
    (fieldAt k v).extractLsb' k n = v := by
  ext i hi
  have hk : k + i < 32 := by omega
  simp [fieldAt, hk, BitVec.getLsbD_eq_getElem hi]

theorem fieldAt_extract_above {n : Nat} (k : Nat) (v : BitVec n) (a m : Nat) (h : k + n ≤ a) :
    (fieldAt k v).extractLsb' a m = 0 := by
  ext i hi
  have hv : v.getLsbD (a + i - k) = false := BitVec.getLsbD_of_ge v _ (by omega)
  simp [fieldAt, hv]

theorem fieldAt_extract_below {n : Nat} (k : Nat) (v : BitVec n) (a m : Nat) (h : a + m ≤ k) :
    (fieldAt k v).extractLsb' a m = 0 := by
  ext i hi
  have hlow : a + i < k := by omega
  simp [fieldAt, hlow]

/-- R35: the five fields of STATUS and the bits they begin at. -/
theorem status_eq_fields (s : State) :
    s.status = fieldAt 0 (BitVec.ofBool s.busy) ||| fieldAt 1 s.phase.code ||| fieldAt 4 s.krem |||
      fieldAt 8 s.err.code ||| fieldAt 16 s.icnt := by
  simp [State.status, fieldAt]

/-- Every range of bits of STATUS is joined from what it takes of the five fields. -/
theorem status_extract (s : State) (a n : Nat) :
    s.status.extractLsb' a n = (fieldAt 0 (BitVec.ofBool s.busy)).extractLsb' a n |||
      (fieldAt 1 s.phase.code).extractLsb' a n ||| (fieldAt 4 s.krem).extractLsb' a n |||
      (fieldAt 8 s.err.code).extractLsb' a n ||| (fieldAt 16 s.icnt).extractLsb' a n := by
  simp only [status_eq_fields, BitVec.extractLsb'_or]

theorem ofBool_busy (s : State) : BitVec.ofBool s.busy = if s.phase = .init then 1 else 0 := by
  by_cases hp : s.phase = .init
  · rw [(busy_iff s).mpr hp, if_pos hp]; rfl
  · rw [(busy_eq_false_iff s).mpr hp, if_neg hp]; rfl

/-- Settles O41: a range of bits lies above, below or exactly on each of the five fields. -/
theorem statusLayout : Obligations.StatusLayout := by
  unfold Obligations.StatusLayout
  intro s
  rw [← ofBool_busy]
  refine ⟨?_, ?_, ?_, ?_, ?_, ?_, ?_, ?_, ?_⟩ <;>
    simp (disch := omega) [status_extract, fieldAt_extract_same, fieldAt_extract_above, fieldAt_extract_below]

/-! ## Accesses to the window (R37, R38) -/

/-- What a register reads does not depend on the host's side, so taking the access and the turn changes no value. -/
theorem readReg_set_program_schedule (s : State) (program : List HostOp) (schedule : List Turn) (r : Reg) :
    ({ s with program := program, schedule := schedule } : State).readReg r = s.readReg r := by
  cases r <;> rfl

/-- On a host turn a read of the register `r` appends its column of R36 to the values read. -/
theorem step_read {s : State} {r : Reg} {rest : List HostOp} {turns : List Turn}
    (hp : s.program = .rd .word (s.base + r.offset) :: rest) (hs : s.schedule = .host :: turns) :
    step s = .next { s with program := rest, schedule := turns, reads := s.reads ++ [s.readReg r] } := by
  rw [step_host hs, ← readReg_set_program_schedule s rest turns r]
  exact hostStep_read hp

/-- On a host turn a write to the register `r` is that write on the state without the access and the turn. -/
theorem step_write {s : State} {r : Reg} {v : Word} {rest : List HostOp} {turns : List Turn}
    (hp : s.program = .wr .word (s.base + r.offset) v :: rest) (hs : s.schedule = .host :: turns) :
    step s = busWrite r v { s with program := rest, schedule := turns } := by
  rw [step_host hs]
  exact hostStep_write hp

/-- Settles O42: the value read is `readReg`, whose columns are those of R36. -/
theorem readReturnsTheRegister : Obligations.ReadReturnsTheRegister := by
  unfold Obligations.ReadReturnsTheRegister
  intro s r rest turns hp hs
  refine ⟨s.readReg r, step_read hp hs, ?_, ?_, ?_, ?_, ?_, ?_⟩
  · rintro rfl; rfl
  · rintro rfl; rfl
  · rintro rfl; rfl
  · rintro rfl; rfl
  · rintro i rfl; rfl
  · rintro j rfl; rfl

/-- Settles O43: the step is `busWrite`, and each column of R36 is one of its cases. -/
theorem writeDoesItsColumn : Obligations.WriteDoesItsColumn := by
  unfold Obligations.WriteDoesItsColumn
  intro s r v rest turns hp hs t
  have hstep : step s = busWrite r v t := step_write hp hs
  rw [hstep]
  refine ⟨?_, ?_, ?_, ?_, ?_⟩
  · rintro rfl; rfl
  · rintro (rfl | rfl) <;> rfl
  · rintro rfl; rfl
  · rintro i rfl; rfl
  · rintro j rfl; rfl

end Sys2Proof
end

section
/-! SUPPORT AND PROOFS. Who writes PHASE (spec/10_state.md R26) and DOUT (R31): what a command word, a TICK and a
reset do to them, and then every step by `step_next`. -/

namespace Sys2Proof
open Machine

/-! ## Which step it is -/

theorem writes_of_program {s : State} {r : Reg} {v : Word} {rest : List HostOp} (hm : s.hostMoves = true)
    (hp : s.program = .wr .word (s.base + r.offset) v :: rest) : s.writes r v :=
  ⟨hm, by rw [hp]; rfl⟩

/-- On a reset turn the step is the reset (R250). -/
theorem step_resets {s : State} (h : s.resets = true) : step s = .next s.spendTurn.resetBlock := by
  cases hs : s.schedule with
  | nil => simp [State.resets, hs] at h
  | cons turn turns =>
    obtain rfl : turn = .reset := by simpa [State.resets, hs] using h
    simp [step, advance, State.spendTurn, hs]

/-! ## PHASE (R26) -/

/-- No command but an accepted SETUP changes PHASE. -/
theorem exec_phase {i : Instr} {s t : State} (h : exec i s = .next t) :
    t.phase = s.phase ∨ (t.phase = .init ∧ ∃ klen ivlen, i = .setup klen ivlen ∧ LegalLengths klen ivlen) := by
  obtain ⟨c, -, rfl⟩ | ⟨-, h⟩ := exec_next h
  · exact .inl rfl
  · obtain ⟨-, rfl⟩ | ⟨-, rfl⟩ | ⟨-, rfl⟩ | ⟨-, rfl⟩ | ⟨klen, hi, hk, rfl⟩ | ⟨-, -, rfl⟩ | ⟨-, -, rfl⟩ := h
    · exact .inl rfl
    · exact .inl rfl
    · exact .inl rfl
    · exact .inl rfl
    · exact .inr ⟨rfl, klen, 16, hi, hk, rfl⟩
    · exact .inl (by rw [nextKsByte_frame])
    · exact .inl (by rw [nextKsWord_state]; rfl)

/-- No command word but that of an accepted SETUP changes PHASE. -/
theorem dispatch_phase {w : Word} {s t : State} (h : dispatch w s = .next t) :
    t.phase = s.phase ∨
      (t.phase = .init ∧ ∃ klen ivlen, decode w = .ok (.setup klen ivlen) ∧ LegalLengths klen ivlen) := by
  obtain ⟨c, -, rfl⟩ | ⟨-, i, hd, he⟩ := dispatch_next h
  · exact .inl rfl
  · obtain hsame | ⟨hinit, klen, ivlen, rfl, hlegal⟩ := exec_phase he
    · exact .inl hsame
    · exact .inr ⟨hinit, klen, ivlen, hd, hlegal⟩

/-- A TICK changes PHASE only from INIT to READY, with the init clock that follows 31 others (R170). -/
theorem tick_phase (s : State) :
    (tick s).phase = if s.phase = .init ∧ s.icnt = 31 then .ready else s.phase := by
  by_cases hp : s.phase = .init
  · have hlast : s.icnt.toNat + 1 = Config.initClocks ↔ s.icnt = 31 := by
      rw [← BitVec.toNat_inj]
      simp [Config.initClocks]
    simp only [tick_init hp, hlast, hp, true_and]
  · rw [tick_outside_init hp, if_neg (by simp [hp])]

/-- A step that changes PHASE is a reset, the write of an accepted SETUP, or the last init TICK. -/
theorem step_phase {s t : State} (h : step s = .next t) (hne : t.phase ≠ s.phase) :
    (s.resets = true ∧ t.phase = .unkeyed) ∨
    (t.phase = .init ∧ ∃ w klen ivlen, s.writes .cmd w ∧ decode w = .ok (.setup klen ivlen) ∧
      LegalLengths klen ivlen) ∨
    (s.phase = .init ∧ t.phase = .ready ∧ s.coreMoves = true ∧ s.icnt = 31) := by
  cases step_next h with
  | idle _ _ ht => exact absurd (by rw [ht]; rfl) hne
  | poll rest _ _ ht => exact absurd (by rw [ht, pollReady_frame]; rfl) hne
  | read r rest _ _ ht => exact absurd (by rw [ht]; rfl) hne
  | reset hm ht => exact .inl ⟨hm, by rw [ht]; rfl⟩
  | tick hm ht =>
    have htick : t.phase = if s.phase = .init ∧ s.icnt = 31 then .ready else s.phase := by
      rw [ht]; exact tick_phase s.spendTurn
    split at htick
    · next hlast => exact .inr (.inr ⟨hlast.1, htick, hm, hlast.2⟩)
    · exact absurd htick hne
  | write r v rest hm hp ht =>
    obtain ⟨rfl, hd⟩ | ⟨-, rfl⟩ := busWrite_next ht
    · obtain hsame | ⟨hinit, klen, ivlen, hdec, hlegal⟩ := dispatch_phase hd
      · exact absurd hsame hne
      · exact .inr (.inl ⟨hinit, v, klen, ivlen, writes_of_program hm hp, hdec, hlegal⟩)
    · exact absurd (writeReg_phase ..) hne

/-- Settles O50: each transition is taken, and `step_phase` leaves no other. -/
theorem phaseTransitions : Obligations.PhaseTransitions := by
  unfold Obligations.PhaseTransitions
  refine ⟨⟨rfl, rfl, rfl⟩, ?_, ?_, ?_, fun s t => step_phase⟩
  · intro s t hr h
    cases (step_resets hr).symm.trans h
    rfl
  · rintro s klen hp ⟨hk, -⟩
    exact ⟨(load klen s).accept, execSetup_accepted hp hk, rfl⟩
  · intro s hp hi
    rw [tick_phase, if_pos ⟨hp, hi⟩]

/-! ## DOUT (R31) -/

/-- What DOUT holds after a command that succeeds: the result of a data command, and what it held for NOP and
SETUP. -/
def doutResult (i : Instr) (s : State) : Word :=
  match i with
  | .nop => s.dout
  | .setup _ _ => s.dout
  | .xorb => zext32 (s.dinByte ^^^ (nextKsByte s).1)
  | .xorw => s.dinWord ^^^ (nextKsWord s).1
  | .mula => mulAlpha s.dinWord
  | .mulai => mulAlphaInv s.dinWord
  | .sbox => sfsm s.dinWord

/-- A command writes `doutResult` to DOUT when it ends with OK, and leaves DOUT when it is rejected. -/
theorem exec_dout {i : Instr} {s t : State} (h : exec i s = .next t) :
    (t.err = .ok ∧ t.dout = doutResult i s) ∨ (t.err ≠ .ok ∧ t.dout = s.dout) := by
  obtain ⟨c, hc, rfl⟩ | ⟨-, h⟩ := exec_next h
  · exact .inr ⟨hc, rfl⟩
  · left
    obtain ⟨rfl, rfl⟩ | ⟨rfl, rfl⟩ | ⟨rfl, rfl⟩ | ⟨rfl, rfl⟩ | ⟨klen, rfl, -, rfl⟩ | ⟨-, rfl, rfl⟩ |
      ⟨-, rfl, rfl⟩ := h
    all_goals simp [doutResult]

theorem exec_dout_of_ok {i : Instr} {s t : State} (hok : t.err = .ok) (h : exec i s = .next t) :
    t.dout = doutResult i s := by
  obtain ⟨-, hdout⟩ | ⟨herr, -⟩ := exec_dout h
  · exact hdout
  · exact absurd hok herr

/-- A command word that changes DOUT is that of a data command, and it ends with OK. -/
theorem dispatch_dout {w : Word} {s t : State} (h : dispatch w s = .next t) (hne : t.dout ≠ s.dout) :
    ∃ i, decode w = .ok i ∧ t.err = .ok ∧ (i = .xorb ∨ i = .xorw ∨ i = .mula ∨ i = .mulai ∨ i = .sbox) := by
  obtain ⟨c, -, rfl⟩ | ⟨-, i, hd, he⟩ := dispatch_next h
  · exact absurd rfl hne
  · obtain ⟨hok, hdout⟩ | ⟨-, hdout⟩ := exec_dout he
    · refine ⟨i, hd, hok, ?_⟩
      cases i with
      | nop => exact absurd hdout hne
      | setup klen ivlen => exact absurd hdout hne
      | _ => simp
    · exact absurd hdout hne

/-- A step that changes DOUT is a reset or the write of a data command that ends with OK. -/
theorem step_dout {s t : State} (h : step s = .next t) (hne : t.dout ≠ s.dout) :
    s.resets = true ∨
    (∃ w i, s.writes .cmd w ∧ decode w = .ok i ∧ t.err = .ok ∧
      (i = .xorb ∨ i = .xorw ∨ i = .mula ∨ i = .mulai ∨ i = .sbox)) := by
  cases step_next h with
  | idle _ _ ht => exact absurd (by rw [ht]; rfl) hne
  | poll rest _ _ ht => exact absurd (by rw [ht, pollReady_frame]; rfl) hne
  | read r rest _ _ ht => exact absurd (by rw [ht]; rfl) hne
  | reset hm _ => exact .inl hm
  | tick _ ht => exact absurd (by rw [ht, tick_frame]; rfl) hne
  | write r v rest hm hp ht =>
    obtain ⟨rfl, hd⟩ | ⟨-, rfl⟩ := busWrite_next ht
    · obtain ⟨i, hdec, hok, hi⟩ := dispatch_dout hd hne
      exact .inr ⟨v, i, writes_of_program hm hp, hdec, hok, hi⟩
    · exact absurd (writeReg_dout ..) hne

/-- Settles O52: the results are `exec_dout_of_ok` at each data command, and the writers are `step_dout`. -/
theorem doutWriters : Obligations.DoutWriters := by
  unfold Obligations.DoutWriters
  refine ⟨fun s t hok => ⟨?_, ?_, ?_, ?_, ?_⟩, fun s t => step_dout⟩
  all_goals exact exec_dout_of_ok hok

end Sys2Proof
end

section
/-! SUPPORT AND PROOFS. The decoder row by row (spec/30_encoding.md R83), the illegal words (R84) and the total
dispatch (R85). -/

namespace Sys2Proof
open Machine

/-! ## The rows of the opcode map (R83) -/

theorem OpcodeRow.selects_iff (r : OpcodeRow) (w : Word) : r.selects w = true ↔ w &&& r.mask = r.pattern :=
  beq_iff_eq

/-- Every mask of the map covers OP, so a row selects only words of its own opcode. -/
theorem opField_of_selects {r : OpcodeRow} {w : Word} (hr : r ∈ opcodeMap) (h : r.selects w = true) :
    opField w = opField r.pattern := by
  have hmask : ∀ r ∈ opcodeMap, byteOf 0 r.mask = BitVec.allOnes 8 := by decide
  rw [← (r.selects_iff w).mp h, opField_eq, opField_eq, byteOf_and, hmask r hr, BitVec.and_allOnes]

/-- No two rows of the map have the same opcode. -/
theorem row_eq_of_opField_eq :
    ∀ r ∈ opcodeMap, ∀ r' ∈ opcodeMap, opField r.pattern = opField r'.pattern → r = r' := by decide

theorem row_eq_of_selects {r r' : OpcodeRow} {w : Word} (hr : r ∈ opcodeMap) (hr' : r' ∈ opcodeMap)
    (h : r.selects w = true) (h' : r'.selects w = true) : r = r' :=
  row_eq_of_opField_eq r hr r' hr' ((opField_of_selects hr h).symm.trans (opField_of_selects hr' h'))

/-! ## The decoder as an equivalence (R83) -/

/-- The operands of the command are those in the fields of `w` (R82); only SETUP has any. -/
def Instr.OperandsOf (w : Word) : Instr → Prop
  | .setup klen ivlen => klen = klenField w ∧ ivlen = ivlenField w
  | _ => True

theorem decode_of_rowSetup_selects {w : Word} (h : rowSetup.selects w = true) :
    decode w = .ok (.setup (klenField w) (ivlenField w)) := by
  have hnop : ¬ rowNop.selects w = true := fun hn =>
    absurd (row_eq_of_selects (by decide) (by decide) hn h) (by decide)
  rw [decode, if_neg hnop, if_pos h]

/-- A word decodes to a command exactly when it selects the command's row and carries its operands. -/
theorem decode_eq_ok_iff (w : Word) (i : Instr) :
    decode w = .ok i ↔ (rowOf i).selects w = true ∧ i.OperandsOf w := by
  constructor
  · intro h
    obtain ⟨hw, hd⟩ | ⟨hop, hrsv, hd⟩ | ⟨hw, hd⟩ | ⟨hw, hd⟩ | ⟨hw, hd⟩ | ⟨hw, hd⟩ | ⟨hw, hd⟩ |
      ⟨-, -, -, -, -, -, -, hd⟩ := decode_cases w
    on_goal 8 => cases hd.symm.trans h
    all_goals cases hd.symm.trans h
    on_goal 2 => exact ⟨(rowSetup_selects w).mpr ⟨hop, hrsv⟩, rfl, rfl⟩
    all_goals exact ⟨(formatC0_selects _ w).mpr hw, trivial⟩
  · rintro ⟨hrow, hops⟩
    cases i with
    | setup klen ivlen =>
      obtain ⟨rfl, rfl⟩ := hops
      exact decode_of_rowSetup_selects hrow
    | _ =>
      obtain rfl := (formatC0_selects _ w).mp hrow
      decide

theorem decode_eq_ok_iff_mask {i : Instr} {w : Word} (hi : i.OperandsOf w) :
    decode w = .ok i ↔ w &&& (rowOf i).mask = (rowOf i).pattern := by
  rw [decode_eq_ok_iff, OpcodeRow.selects_iff, and_iff_left hi]

/-- A byte of a word, taken out by a shift and a mask. -/
theorem toNat_extract_byte (k : Nat) (w : Word) : (w.extractLsb' k 8).toNat = (w >>> k &&& 0xFF).toNat := by
  simpa using (Nat.and_two_pow_sub_one_eq_mod (w.toNat >>> k) 8).symm

/-- Settles O4: a row of the map is its mask and match, and rows with one opcode are one row. -/
theorem opcodeMapSelectsOneRow : Obligations.OpcodeMapSelectsOneRow := by
  unfold Obligations.OpcodeMapSelectsOneRow
  refine ⟨?_, ?_, ?_, ?_, ?_, ?_, ?_, fun w r r' => row_eq_of_selects⟩
  case refine_2 =>
    intro w klen ivlen
    rw [decode_eq_ok_iff, OpcodeRow.selects_iff, ← toNat_extract_byte, ← toNat_extract_byte]
    rfl
  all_goals exact fun w => decode_eq_ok_iff_mask trivial

/-! ## Illegal words (R84) -/

/-- A word with 0 in bits 31:8 is its OP (R80). -/
theorem eq_zext32_opField {w : Word} (h : w >>> 8 = 0) : w = zext32 (opField w) := by
  have hw : w.toNat / 256 = 0 := by simpa [Nat.shiftRight_eq_div_pow] using congrArg BitVec.toNat h
  apply BitVec.eq_of_toNat_eq
  simp [zext32, opField]
  omega

/-- RSV is what is left of a word above its lower three bytes (R80). -/
theorem rsvField_eq_zero_iff (w : Word) : rsvField w = 0 ↔ w >>> 24 = 0 := by
  simp [← BitVec.toNat_inj, rsvField, Nat.shiftRight_eq_div_pow]
  omega

/-- The legal words: a Format C0 opcode with 0 above it, or 0x01 with RSV 0 (R81, R84). -/
theorem exists_decode_eq_ok_iff (w : Word) :
    (∃ i, decode w = .ok i) ↔
      (opField w ∈ [0x00, 0x02, 0x03, 0x10, 0x11, 0x12] ∧ w >>> 8 = 0) ∨ (opField w = 0x01 ∧ w >>> 24 = 0) := by
  constructor
  · rintro ⟨i, hd⟩
    obtain ⟨hrow, -⟩ := (decode_eq_ok_iff w i).mp hd
    cases i with
    | setup klen ivlen =>
      obtain ⟨hop, hrsv⟩ := (rowSetup_selects w).mp hrow
      exact .inr ⟨hop, (rsvField_eq_zero_iff w).mp hrsv⟩
    | _ =>
      obtain rfl := (formatC0_selects _ w).mp hrow
      decide
  · rintro (⟨hop, hzero⟩ | ⟨hop, hzero⟩)
    · rw [eq_zext32_opField hzero]
      simp only [List.mem_cons, List.not_mem_nil, or_false] at hop
      obtain hop | hop | hop | hop | hop | hop := hop
      all_goals exact ⟨_, by rw [hop]; rfl⟩
    · exact ⟨_, decode_of_rowSetup_selects ((rowSetup_selects w).mpr ⟨hop, (rsvField_eq_zero_iff w).mpr hzero⟩)⟩

theorem exists_decode_eq_error_iff (w : Word) : (∃ e, decode w = .error e) ↔ ¬ ∃ i, decode w = .ok i := by
  cases decode w <;> simp

/-- Settles O5: the illegal words are the complement of the legal ones, split by OP. -/
theorem illegalWordsAreRejected : Obligations.IllegalWordsAreRejected := by
  unfold Obligations.IllegalWordsAreRejected
  refine ⟨fun w => ?_, fun s w e hp hd => dispatch_illegal hp hd⟩
  rw [exists_decode_eq_error_iff, exists_decode_eq_ok_iff]
  have hlist : opField w ∈ [0x00, 0x01, 0x02, 0x03, 0x10, 0x11, 0x12] ↔
      opField w ∈ [0x00, 0x02, 0x03, 0x10, 0x11, 0x12] ∨ opField w = 0x01 := by
    simp only [List.mem_cons]
    tauto
  have hdisjoint : opField w = 0x01 → opField w ∉ [0x00, 0x02, 0x03, 0x10, 0x11, 0x12] := by
    intro h
    rw [h]
    decide
  rw [hlist]
  tauto

/-! ## Dispatch (R85) -/

/-- No command's rule stops the block: each is a `command`, which answers a next state in every phase. -/
theorem exists_exec_eq_next (i : Instr) (s : State) : ∃ t, exec i s = .next t := by
  cases i <;> exact ⟨_, rfl⟩

theorem exists_dispatch_eq_next (w : Word) (s : State) : ∃ t, dispatch w s = .next t := by
  by_cases hp : s.phase = .init
  · exact ⟨_, dispatch_busy hp w⟩
  · cases hd : decode w with
    | error e => exact ⟨_, dispatch_illegal hp hd⟩
    | ok i => simpa only [dispatch_ok hd] using exists_exec_eq_next i s

/-- Settles O6: dispatch's three branches, each of which answers a next state. -/
theorem dispatchIsTotal : Obligations.DispatchIsTotal := by
  unfold Obligations.DispatchIsTotal
  intro s w
  refine ⟨exists_dispatch_eq_next w s, fun hp => dispatch_busy hp w, ?_, fun _ i hd => dispatch_ok hd⟩
  rintro hp ⟨e, hd⟩
  exact dispatch_illegal hp hd

end Sys2Proof
end

section
/-! SUPPORT AND PROOFS. The test-access commands of the multipliers (spec/40_field_arith.md R107, R108): what every
Format C0 command's rule says of its encoding and errors, that the multipliers are additive,
and that MulAlphaInv undoes MulAlpha (R106). -/

namespace Sys2Proof
open Machine

/-! ## Format C0 commands (R81) -/

/-- The encoding and the first two errors of every command but SETUP. -/
theorem formatC0Command_encode {i : Instr} (hi : ∀ klen ivlen, i ≠ .setup klen ivlen) :
    FormatC0Command i (encode i) := by
  obtain ⟨hillegal, hrejected⟩ := illegalWordsAreRejected
  obtain ⟨hdec, hop⟩ : decode (encode i) = .ok i ∧ opField (encode i) ∈ [0x00, 0x02, 0x03, 0x10, 0x11, 0x12] := by
    cases i with
    | setup klen ivlen => exact absurd rfl (hi klen ivlen)
    | _ => decide
  refine ⟨hdec, rfl, fun s hp => ⟨exec_busy hp i, dispatch_busy hp _⟩, fun s w hp hw hupper => ?_⟩
  obtain ⟨e, he⟩ := (hillegal w).mpr (.inr (.inl ⟨hw ▸ hop, hupper⟩))
  exact hrejected s w e hp he

/-! ## The multipliers (R102, R105, R106) -/

/-- Two functions of words that are additive over GF(2) are equal when they agree on the words with one bit set. -/
theorem eq_of_xor_of_twoPow {m n : Nat} {f g : BitVec m → BitVec n} (hf : ∀ u v, f (u ^^^ v) = f u ^^^ f v)
    (hg : ∀ u v, g (u ^^^ v) = g u ^^^ g v) (h : ∀ i < m, f (.twoPow m i) = g (.twoPow m i)) (w : BitVec m) :
    f w = g w := by
  suffices hlow : ∀ k, f ((w.setWidth k).setWidth m) = g ((w.setWidth k).setWidth m) by simpa using hlow m
  intro k
  induction k with
  | zero =>
    have hf0 : f 0#m = 0#n := by simpa using hf 0#m 0#m
    have hg0 : g 0#m = 0#n := by simpa using hg 0#m 0#m
    rw [BitVec.of_length_zero (x := w.setWidth 0), BitVec.setWidth_zero, hf0, hg0]
  | succ k ih =>
    cases hbit : w.getLsbD k with
    | false => rwa [BitVec.setWidth_setWidth_succ_eq_setWidth_setWidth_of_getLsbD_false hbit]
    | true =>
      have hsplit : (w.setWidth (k + 1)).setWidth m = (w.setWidth k).setWidth m ^^^ .twoPow m k := by
        rw [BitVec.setWidth_setWidth_succ_eq_setWidth_setWidth_or_twoPow_of_getLsbD_true hbit]
        ext i hi
        grind
      rw [hsplit, hf, hg, ih, h k (BitVec.lt_of_getLsbD hbit)]

/-- MulAlpha is additive, as its table is (R106). -/
theorem mulAlpha_xor (u v : Word) : mulAlpha (u ^^^ v) = mulAlpha u ^^^ mulAlpha v := by
  simp only [mulAlpha, BitVec.shiftLeft_xor_distrib, byteOf_xor, mulA_xor]
  ac_rfl

/-- MulAlphaInv is additive, as its table is (R106). -/
theorem mulAlphaInv_xor (u v : Word) : mulAlphaInv (u ^^^ v) = mulAlphaInv u ^^^ mulAlphaInv v := by
  simp only [mulAlphaInv, BitVec.ushiftRight_xor_distrib, byteOf_xor, mulAI_xor]
  ac_rfl

/-- MulAlphaInv undoes MulAlpha (R106): both are additive, so the words with one bit set decide it. -/
theorem mulAlphaInv_mulAlpha (w : Word) : mulAlphaInv (mulAlpha w) = w := by
  have hadd : ∀ u v, mulAlphaInv (mulAlpha (u ^^^ v)) = mulAlphaInv (mulAlpha u) ^^^ mulAlphaInv (mulAlpha v) :=
    fun u v => by rw [mulAlpha_xor, mulAlphaInv_xor]
  have hbits : ∀ i < 32, mulAlphaInv (mulAlpha (.twoPow 32 i)) = .twoPow 32 i := by decide
  exact eq_of_xor_of_twoPow (f := mulAlphaInv ∘ mulAlpha) (g := id) hadd (fun _ _ => rfl) hbits w

/-! ## MULA and MULAI (R107, R108) -/

theorem exec_mula_idle {s : State} (h : s.phase ≠ .init) :
    exec .mula s = .next { s with dout := mulAlpha s.din, err := .ok } := execMula_idle h

theorem exec_mulai_idle {s : State} (h : s.phase ≠ .init) :
    exec .mulai s = .next { s with dout := mulAlphaInv s.din, err := .ok } := execMulai_idle h

/-- Settles O14: the Format C0 rule, the command's effect, and the rule's words by evaluation. -/
theorem mulaRule : Obligations.MulaRule := by
  unfold Obligations.MulaRule
  exact ⟨formatC0Command_encode (i := .mula) nofun, fun s => exec_mula_idle, by decide⟩

/-- Settles O15: as for MULA; the last clause is `mulAlphaInv_mulAlpha`. -/
theorem mulaiRule : Obligations.MulaiRule := by
  unfold Obligations.MulaiRule
  refine ⟨formatC0Command_encode (i := .mulai) nofun, fun s => exec_mulai_idle, ?_, ?_, ?_, ?_, ?_, ?_⟩
  case refine_6 =>
    intro s t h hp
    cases (exec_mula_idle hp).symm.trans h
    exact ⟨_, exec_mulai_idle hp, mulAlphaInv_mulAlpha s.din⟩
  all_goals decide

end Sys2Proof
end

section
/-! SUPPORT AND PROOFS. The test-access command of the FSM substitution (spec/41_sbox.md R124): what the substitution
does to a word of four equal bytes, and the command's rule. -/

namespace Sys2Proof
open Machine

/-! ## Words of four equal bytes (R122, R123) -/

theorem mulS_one (a : Byte) : mulS a 1 = a := by
  simp [mulS, gmul8, gmul8Sum]

/-- 2 XOR 3 = 1, so the two products of a row of the column mix give back the byte. -/
theorem mulS_two_xor_mulS_three (a : Byte) : mulS a 2 ^^^ mulS a 3 = a :=
  calc mulS a 2 ^^^ mulS a 3 = mulS a (2 ^^^ 3) := (gmul8_xor_right a 2 3 Config.polyS).symm
    _ = a := mulS_one a

/-- A column of equal entries mixes to itself: in every row 2 XOR 3 XOR 1 XOR 1 = 1 (R124). -/
theorem mixColumn_of_equal_entries (t : Byte) : mixColumn t t t t = be32 t t t t := by
  have hrow : mulS t 2 ^^^ mulS t 3 ^^^ t ^^^ t = t := by
    rw [mulS_two_xor_mulS_three, BitVec.xor_self, BitVec.zero_xor]
  rw [mixColumn]
  congr 1 <;> exact Eq.trans (by ac_rfl) hrow

theorem sfsm_of_equal_bytes (b : Byte) :
    sfsm (be32 b b b b) = be32 (sbox8 b) (sbox8 b) (sbox8 b) (sbox8 b) := by
  simp [sfsm, mixColumn_of_equal_entries]

/-! ## SBOX (R124) -/

theorem exec_sbox_idle {s : State} (h : s.phase ≠ .init) :
    exec .sbox s = .next { s with dout := sfsm s.din, err := .ok } := execSbox_idle h

/-- Settles O16: the Format C0 rule, the command's effect, the two words of equal bytes, and the examples by
evaluation. -/
theorem sboxRule : Obligations.SboxRule := by
  unfold Obligations.SboxRule
  have hzero : sfsm 0x00000000 = 0x63636363 := sfsm_of_equal_bytes 0x00
  have hones : sfsm 0xFFFFFFFF = 0x16161616 := sfsm_of_equal_bytes 0xFF
  have hnonlinear : sfsm 0 ≠ 0 := hzero.trans_ne (by decide)
  exact ⟨formatC0Command_encode (i := .sbox) nofun, fun s => exec_sbox_idle, hzero, hones, hnonlinear, by decide⟩

end Sys2Proof
end

section
/-! SUPPORT AND PROOFS. One clock of the cipher (spec/42_state_machine.md R142, R143): its effect written out, that no
two cipher states have the same successor, and the linear recurrence the LFSR runs through. -/

namespace Sys2Proof
open Machine

/-! ## The functions of the clock at 0 (R102, R105) -/

@[simp] theorem mulAlpha_zero : mulAlpha 0#32 = 0#32 := by decide

@[simp] theorem mulAlphaInv_zero : mulAlphaInv 0#32 = 0#32 := by decide

theorem sfsm_zero : sfsm 0 = 0x63636363 := sfsm_of_equal_bytes 0x00

/-! ## One clock from the all-zero state (R143) -/

theorem feedback_of_lfsr_zero {s : State} (hl : s.lfsr = Vector.replicate 16 0) : s.feedback = 0 := by
  simp [State.feedback, hl]

theorem fsmOut_of_zero {s : State} (hl : s.lfsr = Vector.replicate 16 0) (h1 : s.r1 = 0) (h2 : s.r2 = 0) :
    s.fsmOut = 0 := by
  simp [State.fsmOut, add32, hl, h1, h2]

theorem newWord_of_zero {s : State} (hl : s.lfsr = Vector.replicate 16 0) (h1 : s.r1 = 0) (h2 : s.r2 = 0)
    (m : ClockMode) : s.newWord m = 0 := by
  cases m <;> simp [State.newWord, feedback_of_lfsr_zero hl, fsmOut_of_zero hl h1 h2]

theorem shiftIn_replicate (w : Word) : shiftIn (Vector.replicate 16 w) w = Vector.replicate 16 w := rfl

/-- The example of R143: only R2 leaves 0. -/
theorem clockCore_of_zero {s : State} (hl : s.lfsr = Vector.replicate 16 0) (h1 : s.r1 = 0) (h2 : s.r2 = 0)
    (m : ClockMode) : clockCore m s = { s with r2 := 0x63636363 } := by
  have hlfsr : shiftIn s.lfsr (s.newWord m) = s.lfsr := by
    rw [newWord_of_zero hl h1 h2, hl, shiftIn_replicate]
  have hr1 : add32 s.r2 s.lfsr[5] = s.r1 := by simp [add32, hl, h1, h2]
  rw [clockCore, hlfsr, hr1, h1, sfsm_zero]

/-! ## A clock loses nothing (R143) -/

/-- The words S[1..15] survive a shift, and the appended word is read back. -/
theorem shiftIn_eq_iff {v w : Vector Word 16} {a b : Word} :
    shiftIn v a = shiftIn w b ↔ (∀ (i : Nat) (h : i < 15), v[i + 1] = w[i + 1]) ∧ a = b := by
  constructor
  · intro h
    refine ⟨fun i hi => ?_, ?_⟩
    · rw [← shiftIn_get v a i hi, ← shiftIn_get w b i hi, h]
    · rw [← shiftIn_last v a, ← shiftIn_last w b, h]
  · rintro ⟨hkeep, rfl⟩
    ext1 i hi
    rcases Nat.lt_succ_iff_lt_or_eq.mp hi with hlt | rfl
    · rw [shiftIn_get v a i hlt, shiftIn_get w a i hlt, hkeep i hlt]
    · rfl

theorem mulAlpha_injective : Function.Injective mulAlpha :=
  Function.LeftInverse.injective mulAlphaInv_mulAlpha

/-- The oldest word can be recovered from the new one: everything else the new word depends on is still known. -/
theorem lfsr_zero_eq_of_newWord_eq {s t : State} {m : ClockMode}
    (hkeep : ∀ (i : Nat) (h : i < 15), s.lfsr[i + 1] = t.lfsr[i + 1]) (h1 : s.r1 = t.r1) (h2 : s.r2 = t.r2)
    (hnew : s.newWord m = t.newWord m) : s.lfsr[0] = t.lfsr[0] := by
  have hfsm : s.fsmOut = t.fsmOut := by
    rw [State.fsmOut, State.fsmOut, hkeep 14 (by decide), h1, h2]
  have hfb : s.feedback = t.feedback := by
    cases m with
    | ksMode => exact hnew
    | initMode =>
      simp only [State.newWord, hfsm] at hnew
      exact (BitVec.xor_left_inj _).mp hnew
  rw [State.feedback, State.feedback, hkeep 1 (by decide), hkeep 10 (by decide)] at hfb
  exact mulAlpha_injective ((BitVec.xor_left_inj _).mp ((BitVec.xor_left_inj _).mp hfb))

/-- The converse of `SameCipher.clockCore`. -/
theorem sameCipher_of_clockCore {s t : State} {m : ClockMode} (h : SameCipher (clockCore m s) (clockCore m t)) :
    SameCipher s t := by
  obtain ⟨hlfsr, hr1, hr2⟩ := h
  obtain ⟨hkeep, hnew⟩ := shiftIn_eq_iff.mp hlfsr
  have h1 : s.r1 = t.r1 := sfsm_injective hr2
  have h2 : s.r2 = t.r2 := by
    rw [clockCore_r1, clockCore_r1, add32, add32, hkeep 4 (by decide)] at hr1
    exact (BitVec.add_left_inj _).mp hr1
  refine ⟨?_, h1, h2⟩
  ext1 i hi
  cases i with
  | zero => exact lfsr_zero_eq_of_newWord_eq hkeep h1 h2 hnew
  | succ i => exact hkeep i (by omega)

theorem finite_lfsr : Finite (Vector Word 16) :=
  Finite.of_injective (fun v (i : Fin 16) => v[i]) fun _ _ h => Vector.ext fun i hi => congrFun h ⟨i, hi⟩

/-- Settles O30: the effect is the definition read word by word, the example is `clockCore_of_zero`, and a clock is
injective, so on the finitely many cipher states it is a bijection. -/
theorem clockCoreRule : Obligations.ClockCoreRule := by
  unfold Obligations.ClockCoreRule
  refine ⟨fun s mode => ⟨rfl, shiftIn_get s.lfsr _, ?_, ?_⟩, ?_, ?_⟩
  · rintro rfl; rfl
  · rintro rfl; rfl
  · exact fun s mode hl h1 h2 => clockCore_of_zero hl h1 h2 mode
  · intro mode
    have := finite_lfsr
    refine Finite.injective_iff_bijective.mp ?_
    rintro ⟨l, a, b⟩ ⟨l', a', b'⟩ heq
    obtain ⟨hl, h⟩ := Prod.mk.inj heq
    obtain ⟨rfl, rfl, rfl⟩ := sameCipher_of_clockCore ⟨hl, Prod.mk.inj h⟩
    rfl

/-! ## The recurrence (R142) -/

/-- Word `n` of the LFSR sequence: the oldest word after `n` keystream clocks. -/
def lfsrSeq (s : State) (n : Nat) : Word := ((clockCore .ksMode)^[n] s).lfsr[0]

/-- What stands at place `i` after `n` clocks is the oldest word `i` clocks later. -/
theorem lfsr_eq_lfsrSeq (s : State) (n i : Nat) (h : i < 16) :
    ((clockCore .ksMode)^[n] s).lfsr[i] = lfsrSeq s (n + i) := by
  induction i generalizing n with
  | zero => rfl
  | succ i ih =>
    calc ((clockCore .ksMode)^[n] s).lfsr[i + 1]
        = ((clockCore .ksMode)^[n + 1] s).lfsr[i] := by
          simp only [Function.iterate_succ_apply', clockCore_lfsr, shiftIn_get _ _ i (by omega)]
      _ = lfsrSeq s (n + (i + 1)) := by rw [ih (n + 1) (by omega), Nat.add_right_comm, Nat.add_assoc]

/-- The word a keystream clock appends is the feedback of the state before it. -/
theorem lfsrSeq_add_sixteen (s : State) (n : Nat) :
    lfsrSeq s (n + 16) = ((clockCore .ksMode)^[n] s).feedback := by
  rw [← Nat.add_right_comm n 1 15, ← lfsr_eq_lfsrSeq s (n + 1) 15 (by decide), Function.iterate_succ_apply']
  rfl

/-- Settles O31 with the sequence `lfsrSeq`. -/
theorem lfsrRecurrence : Obligations.LfsrRecurrence := by
  unfold Obligations.LfsrRecurrence
  refine fun s => ⟨rfl, lfsrSeq s, fun n i => lfsr_eq_lfsrSeq s n i i.isLt, fun n => ?_⟩
  rw [lfsrSeq_add_sixteen, State.feedback, lfsr_eq_lfsrSeq, lfsr_eq_lfsrSeq, lfsr_eq_lfsrSeq, Nat.add_zero]

end Sys2Proof
end

section
/-! SUPPORT AND PROOFS. Key/IV setup (spec/43_setup.md): the SETUP word (R161), its rejections (R162), the load maps
(R164, R165) and the init sequence that follows an accepted SETUP (R166, R170). -/

namespace Sys2Proof
open Machine

/-! ## The SETUP word (R80, R161) -/

/-- The only word that decodes to a SETUP with these operands, byte by byte. -/
theorem eq_be32_of_decode_setup {w : Word} {klen ivlen : Nat} (h : decode w = .ok (.setup klen ivlen)) :
    w = be32 0 (BitVec.ofNat 8 ivlen) (BitVec.ofNat 8 klen) 1 := by
  obtain ⟨hrow, rfl, rfl⟩ := (decode_eq_ok_iff w _).mp h
  obtain ⟨hop, hrsv⟩ := (rowSetup_selects w).mp hrow
  rw [opField_eq] at hop
  rw [rsvField_eq] at hrsv
  calc w = be32 (byteOf 3 w) (byteOf 2 w) (byteOf 1 w) (byteOf 0 w) := (be32_byteOf w).symm
    _ = _ := by simp [hop, hrsv, klenField_eq, ivlenField_eq]

theorem exists_decode_eq_error_of_rsv {w : Word} (hop : opField w = 0x01) (hrsv : w >>> 24 ≠ 0) :
    ∃ e, decode w = .error e := by
  rw [exists_decode_eq_error_iff, exists_decode_eq_ok_iff, hop]
  rintro (⟨hmem, -⟩ | ⟨-, hzero⟩)
  · exact absurd hmem (by decide)
  · exact hrsv hzero

/-! ## The load maps (R164 to R166) -/

/-- The IV words fall on S[9], S[10], S[12] and S[15] of either key column (R165). -/
theorem xor_mapIV (column : Vector Word 16) (v : Vector Word 4) :
    (Vector.ofFn fun i => column[i] ^^^ mapIV v i) =
      #v[column[0], column[1], column[2], column[3], column[4], column[5], column[6], column[7],
         column[8], column[9] ^^^ v[3], column[10] ^^^ v[2], column[11],
         column[12] ^^^ v[1], column[13], column[14], column[15] ^^^ v[0]] := by
  ext1 i hi
  interval_cases i <;> simp [mapIV]

theorem load_lfsr_128 (s : State) :
    (load 16 s).lfsr =
      #v[~~~s.key[3], ~~~s.key[2], ~~~s.key[1], ~~~s.key[0], s.key[3], s.key[2], s.key[1], s.key[0],
         ~~~s.key[3], ~~~s.key[2] ^^^ s.iv[3], ~~~s.key[1] ^^^ s.iv[2], ~~~s.key[0],
         s.key[3] ^^^ s.iv[1], s.key[2], s.key[1], s.key[0] ^^^ s.iv[0]] :=
  xor_mapIV (keyColumn128 s.key) s.iv

theorem load_lfsr_256 (s : State) :
    (load 32 s).lfsr =
      #v[~~~s.key[7], ~~~s.key[6], ~~~s.key[5], ~~~s.key[4], ~~~s.key[3], ~~~s.key[2], ~~~s.key[1], ~~~s.key[0],
         s.key[7], s.key[6] ^^^ s.iv[3], s.key[5] ^^^ s.iv[2], s.key[4],
         s.key[3] ^^^ s.iv[1], s.key[2], s.key[1], s.key[0] ^^^ s.iv[0]] :=
  xor_mapIV (keyColumn256 s.key) s.iv

theorem load_accept (klen : Nat) (s : State) :
    (load klen s).accept = { s with
      lfsr := (load klen s).lfsr, r1 := 0, r2 := 0, kbuf := 0, krem := 0, icnt := 0, phase := .init, err := .ok } := by
  rw [load, State.accept]

/-- STATUS right after an accepted SETUP: BUSY = 1, PHASE = INIT, every other field 0 (R161). -/
theorem status_load_accept (klen : Nat) (s : State) : (load klen s).accept.status = 0x00000003 :=
  calc (load klen s).accept.status = ({ State.reset with phase := .init } : State).status :=
        status_congr rfl rfl rfl rfl
    _ = 0x00000003 := by decide

/-- A TICK neither reads nor writes KEY and IV (R166). -/
theorem tick_set_key_iv (s : State) (k : Vector Word 8) (v : Vector Word 4) :
    tick { s with key := k, iv := v } = { tick s with key := k, iv := v } := by
  by_cases hp : s.phase = .init
  · rw [tick_init hp, tick_init (s := { s with key := k, iv := v }) hp]
    rfl
  · rw [tick_outside_init hp, tick_outside_init (s := { s with key := k, iv := v }) hp]

theorem tick_iterate_set_key_iv (s : State) (k : Vector Word 8) (v : Vector Word 4) (n : Nat) :
    tick^[n] { s with key := k, iv := v } = { tick^[n] s with key := k, iv := v } := by
  induction n with
  | zero => rfl
  | succ n ih => rw [Function.iterate_succ_apply', Function.iterate_succ_apply', ih, tick_set_key_iv]

/-- Settles O18: an accepted SETUP is the load, each key column carries the IV words, and a TICK commutes with every
later write to KEY and IV. -/
theorem setupLoadsTheCipherState : Obligations.SetupLoadsTheCipherState := by
  unfold Obligations.SetupLoadsTheCipherState
  refine ⟨fun s hp => ?_, fun s hp => ?_, tick_iterate_set_key_iv⟩
  · rw [← load_lfsr_128, ← load_accept]
    exact execSetup_accepted hp (.inl rfl)
  · rw [← load_lfsr_256, ← load_accept]
    exact execSetup_accepted hp (.inr rfl)

/-! ## The init sequence (R170) -/

/-- The end of the init sequence told by ICNT as the register holds it. -/
theorem tick_init_icnt {s : State} (hp : s.phase = .init) :
    tick s = { clockCore .initMode s with
      icnt := s.icnt + 1, phase := if s.icnt = 31 then .ready else .init } := by
  have hphase := tick_phase s
  simp only [hp, true_and] at hphase
  rw [← hphase, tick_init hp]

theorem clockCore_set_icnt_phase (m : ClockMode) (s : State) (c : BitVec 6) (p : Phase) :
    clockCore m { s with icnt := c, phase := p } = { clockCore m s with icnt := c, phase := p } := by
  cases m <;> rfl

/-- After a load up to 32 TICKs are as many init clocks, counted in ICNT; the last one ends in READY. -/
theorem tick_iterate_of_loaded {t : State} (hp : t.phase = .init) (hi : t.icnt = 0) {n : Nat} (hn : n ≤ 32) :
    tick^[n] t = { (clockCore .initMode)^[n] t with
      icnt := BitVec.ofNat 6 n, phase := if n = 32 then .ready else .init } := by
  induction n with
  | zero => simp [State.ext_iff, hp, hi]
  | succ n ih =>
    have hrunning : (if n = 32 then Phase.ready else .init) = .init := if_neg (by omega)
    have hlast : BitVec.ofNat 6 n = 31 ↔ n + 1 = 32 := by
      rw [← BitVec.toNat_inj]
      simp
      omega
    rw [Function.iterate_succ_apply', Function.iterate_succ_apply', ih (by omega), hrunning, tick_init_icnt rfl,
      clockCore_set_icnt_phase]
    simp only [hlast, BitVec.ofNat_add]
    rfl

theorem tick_iterate_phase {t : State} (hp : t.phase = .init) (hi : t.icnt = 0) {n : Nat} (hn : n ≤ 32) :
    (tick^[n] t).phase = if n = 32 then .ready else .init := by
  rw [tick_iterate_of_loaded hp hi hn]

/-! ## The example of the rules (R161, R170) -/

/-- The key 80000000 0 0 0, on the machine right after reset. -/
def exampleKeyed : State := { State.reset with key := #v[0x80000000, 0, 0, 0, 0, 0, 0, 0] }

/-- The same machine once a SETUP 16, 16 has run its 32 init clocks. -/
def exampleReady : State :=
  { exampleKeyed with
    lfsr := #v[0x816B058A, 0xC29D7180, 0x226490D3, 0x220BBB1F, 0x62B6BA4B, 0xE6ACD350, 0x93CCBBA4, 0xEDEA254B,
               0x0CDDA783, 0xE3015EFF, 0xFBE8009A, 0x30F295D5, 0xE8C921C4, 0xBC4C4184, 0xC6B5DC32, 0x494AA350]
    r1 := 0x368A1B02
    r2 := 0x3B1B2B09
    phase := .ready
    icnt := 32 }

theorem afterSetup_exampleKeyed : exampleKeyed.afterSetup 16 = exampleReady := by decide +kernel

/-- Settles O33: one TICK by its two cases, the 32 TICKs by `tick_iterate_phase`, and the example. -/
theorem tickRule : Obligations.TickRule := by
  unfold Obligations.TickRule
  refine ⟨fun s => tick_outside_init, fun s => tick_init_icnt, ?_, ?_⟩
  · rintro s t klen ⟨hk, -⟩ hp h
    obtain rfl := Host.Outcome.next.inj ((execSetup_accepted hp hk).symm.trans h)
    have hphase : ∀ n ≤ 32, (tick^[n] (load klen s).accept).phase = if n = 32 then .ready else .init :=
      fun n => tick_iterate_phase rfl rfl
    exact ⟨fun n hn => (hphase n hn.le).trans (if_neg hn.ne), hphase 32 le_rfl⟩
  · intro t ht
    obtain rfl : t = exampleReady := ht.trans afterSetup_exampleKeyed
    decide

/-! ## SETUP (R161, R162) -/

/-- Settles O17: the SETUP row of the decoder, one lemma of `execSetup` for each way it can end, and the example. -/
theorem setupRule : Obligations.SetupRule := by
  unfold Obligations.SetupRule
  refine ⟨fun w hw => ?_, by decide, by decide, ?_, fun s klen ivlen hp => exec_busy hp _, ?_, ?_, ?_⟩
  · exact decode_of_rowSetup_selects ((rowSetup.selects_iff w).mpr hw)
  · rintro w klen ivlen hd ⟨rfl | rfl, rfl⟩
    · exact .inl (eq_be32_of_decode_setup hd)
    · exact .inr (eq_be32_of_decode_setup hd)
  · intro s w hp hop hrsv
    obtain ⟨e, he⟩ := exists_decode_eq_error_of_rsv hop hrsv
    exact dispatch_illegal hp he
  · refine fun s klen ivlen hp => ⟨fun hk => execSetup_keySize hp hk ivlen, fun hk => execSetup_ivSize hp hk, ?_⟩
    rintro ⟨hk, rfl⟩
    exact ⟨(load klen s).accept, execSetup_accepted hp hk, load_accept klen s, rfl, rfl, status_load_accept klen s⟩
  · refine ⟨(load 16 exampleKeyed).accept, execSetup_accepted (by decide) (.inl rfl), ?_⟩
    have hready : tick^[32] (load 16 exampleKeyed).accept = exampleReady := afterSetup_exampleKeyed
    rw [hready]
    exact ⟨_, execXorw_ready rfl, by decide⟩

end Sys2Proof
end

section
/-! SUPPORT AND PROOFS. The stream adapter (spec/44_stream.md): the byte source and who may call it (R190), XORB
(R192) and XORW (R194). -/

namespace Sys2Proof
open Machine

/-! ## The byte source (R190) -/

/-- No command but an accepted SETUP, and XORB and XORW in READY, changes KBUF or KREM. -/
theorem exec_kbuf_krem {i : Instr} {s t : State} (h : exec i s = .next t) :
    (t.kbuf = s.kbuf ∧ t.krem = s.krem) ∨
    (∃ klen ivlen, i = .setup klen ivlen ∧ LegalLengths klen ivlen) ∨
    (s.phase = .ready ∧ (i = .xorb ∨ i = .xorw)) := by
  obtain ⟨c, -, rfl⟩ | ⟨-, h⟩ := exec_next h
  · exact .inl ⟨rfl, rfl⟩
  · obtain ⟨-, rfl⟩ | ⟨-, rfl⟩ | ⟨-, rfl⟩ | ⟨-, rfl⟩ | ⟨klen, hi, hk, -⟩ | ⟨hp, hi, -⟩ | ⟨hp, hi, -⟩ := h
    · exact .inl ⟨rfl, rfl⟩
    · exact .inl ⟨rfl, rfl⟩
    · exact .inl ⟨rfl, rfl⟩
    · exact .inl ⟨rfl, rfl⟩
    · exact .inr (.inl ⟨klen, 16, hi, hk, rfl⟩)
    · exact .inr (.inr ⟨hp, .inl hi⟩)
    · exact .inr (.inr ⟨hp, .inr hi⟩)

/-- A command word that changes KBUF or KREM is that of an accepted SETUP, or of XORB or XORW in READY. -/
theorem dispatch_kbuf_krem {w : Word} {s t : State} (h : dispatch w s = .next t)
    (hne : t.kbuf ≠ s.kbuf ∨ t.krem ≠ s.krem) :
    s.phase ≠ .init ∧
      ((∃ klen ivlen, decode w = .ok (.setup klen ivlen) ∧ LegalLengths klen ivlen) ∨
       (s.phase = .ready ∧ (decode w = .ok .xorb ∨ decode w = .ok .xorw))) := by
  obtain ⟨c, -, rfl⟩ | ⟨hp, i, hd, he⟩ := dispatch_next h
  · simp at hne
  · refine ⟨hp, ?_⟩
    obtain ⟨hkbuf, hkrem⟩ | ⟨klen, ivlen, rfl, hlegal⟩ | ⟨hready, rfl | rfl⟩ := exec_kbuf_krem he
    · simp [hkbuf, hkrem] at hne
    · exact .inl ⟨klen, ivlen, hd, hlegal⟩
    · exact .inr ⟨hready, .inl hd⟩
    · exact .inr ⟨hready, .inr hd⟩

/-- A step that changes KBUF or KREM is a reset or the write of such a command word. -/
theorem step_kbuf_krem {s t : State} (h : step s = .next t) (hne : t.kbuf ≠ s.kbuf ∨ t.krem ≠ s.krem) :
    s.resets = true ∨
    (∃ w, s.writes .cmd w ∧ s.phase ≠ .init ∧
      ((∃ klen ivlen, decode w = .ok (.setup klen ivlen) ∧ LegalLengths klen ivlen) ∨
       (s.phase = .ready ∧ (decode w = .ok .xorb ∨ decode w = .ok .xorw)))) := by
  have hkeep : ¬ (t.kbuf = s.kbuf ∧ t.krem = s.krem) := not_and_or.mpr hne
  cases step_next h with
  | idle _ _ ht => exact absurd (by rw [ht]; exact ⟨rfl, rfl⟩) hkeep
  | poll rest _ _ ht => exact absurd (by rw [ht, pollReady_frame]; exact ⟨rfl, rfl⟩) hkeep
  | read r rest _ _ ht => exact absurd (by rw [ht]; exact ⟨rfl, rfl⟩) hkeep
  | tick _ ht => exact absurd (by rw [ht, tick_frame]; exact ⟨rfl, rfl⟩) hkeep
  | reset hm _ => exact .inl hm
  | write r v rest hm hp ht =>
    obtain ⟨rfl, hd⟩ | ⟨-, rfl⟩ := busWrite_next ht
    · have hcmd := dispatch_kbuf_krem hd hne
      exact .inr ⟨v, writes_of_program hm hp, hcmd⟩
    · exact absurd ⟨writeReg_kbuf .., writeReg_krem ..⟩ hkeep

/-- At KREM = k + 1 the next byte is byte k of KBUF, and KREM becomes k. -/
theorem nextKsByte_of_krem_eq {s : State} {k : Nat} (hk : k < 3) (h : s.krem = BitVec.ofNat 2 (k + 1)) :
    nextKsByte s = (byteOf k s.kbuf, { s with krem := BitVec.ofNat 2 k }) := by
  have hne : s.krem ≠ 0 := by rw [h]; interval_cases k <;> decide
  have hbyte : s.krem.toNat - 1 = k := by rw [h]; interval_cases k <;> rfl
  have hdown : s.krem - 1 = BitVec.ofNat 2 k := by rw [h]; interval_cases k <;> rfl
  rw [nextKsByte_residual hne, hbyte, hdown]

/-- Settles O19: `nextKsByte_refill` and `nextKsByte_of_krem_eq` are the four values of KREM, and the writers of KBUF
and KREM are `step_kbuf_krem`. -/
theorem nextKsByteRule : Obligations.NextKsByteRule := by
  unfold Obligations.NextKsByteRule
  refine ⟨fun s => nextKsByte_refill, ?_, ?_, ?_, fun s t => step_kbuf_krem⟩
  · exact fun s => nextKsByte_of_krem_eq (k := 2) (by decide)
  · exact fun s => nextKsByte_of_krem_eq (k := 1) (by decide)
  · exact fun s => nextKsByte_of_krem_eq (k := 0) (by decide)

/-! ## XORB (R192) -/

theorem exec_xorb_unkeyed {s : State} (h : s.phase = .unkeyed) :
    exec .xorb s = .next { s with err := .notReady } := execXorb_unkeyed h

theorem exec_xorb_ready {s : State} (h : s.phase = .ready) :
    exec .xorb s = .next
      { (nextKsByte s).2 with dout := zext32 (byteOf 0 s.din ^^^ (nextKsByte s).1), err := .ok } :=
  execXorb_ready h

theorem zext32_ushiftRight_eight (b : Byte) : zext32 b >>> 8 = 0 := by
  rw [← BitVec.toNat_inj]
  simp [zext32, Nat.shiftRight_eq_div_pow, Nat.mod_lt_of_lt b.isLt]

/-- A byte at KREM = 0 clocks the cipher once. -/
theorem sameCipher_nextKsByte_refill {s : State} (h : s.krem = 0) :
    SameCipher (nextKsByte s).2 (clockCore .ksMode s) := by
  rw [nextKsByte_refill h]
  exact ⟨rfl, rfl, rfl⟩

/-- A residual byte neither clocks the cipher nor refills KBUF. -/
theorem sameCipher_nextKsByte_residual {s : State} (h : s.krem ≠ 0) :
    SameCipher (nextKsByte s).2 s ∧ (nextKsByte s).2.kbuf = s.kbuf := by
  rw [nextKsByte_residual h]
  exact ⟨⟨rfl, rfl, rfl⟩, rfl⟩

/-- The byte source neither reads nor writes DIN. -/
theorem nextKsByte_set_din (s : State) (d : Word) :
    nextKsByte { s with din := d } = ((nextKsByte s).1, { (nextKsByte s).2 with din := d }) := by
  by_cases h : s.krem = 0
  · rw [nextKsByte_refill h, nextKsByte_refill (s := { s with din := d }) h]
    rfl
  · rw [nextKsByte_residual h, nextKsByte_residual (s := { s with din := d }) h]

/-- Settles O20: the Format C0 rule, `exec_xorb_ready`, one lemma of the byte source for each further clause, and the
example by evaluation. -/
theorem xorbRule : Obligations.XorbRule := by
  unfold Obligations.XorbRule
  refine ⟨formatC0Command_encode (i := .xorb) nofun, fun s => exec_xorb_unkeyed, fun s => exec_xorb_ready, ?_, ?_⟩
  · intro s t hp h
    obtain rfl := Host.Outcome.next.inj ((exec_xorb_ready hp).symm.trans h)
    refine ⟨nextKsByte_krem s, zext32_ushiftRight_eight _, sameCipher_nextKsByte_refill,
      sameCipher_nextKsByte_residual, fun hd => ?_, fun d hd => ?_⟩
    · simp [hd, byteOf, zext32]
    · have hbyte : byteOf 0 d = byteOf 0 s.din := hd
      rw [exec_xorb_ready (s := { s with din := d }) hp, nextKsByte_set_din, hbyte]
  · rw [← exampleKeyed, afterSetup_exampleKeyed]
    exact ⟨_, exec_xorb_ready rfl, by decide⟩

/-! ## XORW (R194) -/

theorem exec_xorw_unkeyed {s : State} (h : s.phase = .unkeyed) :
    exec .xorw s = .next { s with err := .notReady } := execXorw_unkeyed h

/-- XORW is one clock, whatever KREM is (`nextKsWord_state`). -/
theorem exec_xorw_ready {s : State} (h : s.phase = .ready) :
    exec .xorw s = .next
      { clockCore .ksMode s with
        kbuf := (clockCore .ksMode s).keyWord, dout := s.din ^^^ (nextKsWord s).1, err := .ok } := by
  rw [exec, execXorw_ready h, nextKsWord_state]
  rfl

/-- Settles O21: the Format C0 rule, `exec_xorw_ready`, and the examples by evaluation. -/
theorem xorwRule : Obligations.XorwRule := by
  unfold Obligations.XorwRule
  rw [← exampleKeyed, afterSetup_exampleKeyed]
  refine ⟨formatC0Command_encode (i := .xorw) nofun, fun s => exec_xorw_unkeyed, fun s hp => ?_, ?_, ?_⟩
  · refine ⟨_, exec_xorw_ready hp, ?_, rfl, fun hk => ?_⟩
    · rw [nextKsWord_eq]
    · rw [nextKsWord_aligned hk]
  · exact ⟨_, exec_xorw_ready rfl, by decide⟩
  · exact ⟨_, exec_xorw_ready (dropBytes_phase exampleReady 3), by decide⟩

end Sys2Proof
end

section
/-! SUPPORT AND PROOFS. The control command NOP (spec/45_control.md R210): it writes ERR and nothing else, whatever
code the command before it left. -/

namespace Sys2Proof
open Machine

theorem exec_nop_idle {s : State} (h : s.phase ≠ .init) : exec .nop s = .next { s with err := .ok } := execNop_idle h

/-- Settles O13: the Format C0 rule, the command's effect and the illegal word. In the example the rejection of SETUP
keeps PHASE, so the NOP after it runs. -/
theorem nopRule : Obligations.NopRule := by
  unfold Obligations.NopRule
  refine ⟨formatC0Command_encode (i := .nop) nofun, fun s => exec_nop_idle, fun s hp => ?_, fun s hp => ?_⟩
  · have hillegal : decode 0x00000100 = .error .nonzeroOperandBits := by decide
    exact dispatch_illegal hp hillegal
  · have hsetup : exec (.setup 24 16) s = .next (s.reject .keySize) := execSetup_keySize hp (by decide) 16
    have hnop : exec .nop (s.reject .keySize) = .next { s with err := .ok } := exec_nop_idle hp
    exact ⟨_, _, hsetup, rfl, hnop, rfl⟩

end Sys2Proof
end

section
/-! SUPPORT AND PROOFS. Errors (spec/60_exceptions.md): the cause of each code (R221), that a word with a cause is
rejected with its code (R222, R230) and every other word is accepted, that BUSY rejects everything (R223), and which
steps change ERR (R220). -/

namespace Sys2Proof
open Machine

/-! ## Rejection (R222, R223) -/

/-- A rejection does not disturb the init sequence: TICK neither reads nor writes ERR (R223). -/
theorem tick_reject (s : State) (c : Err) : tick (s.reject c) = (tick s).reject c := by
  by_cases hp : s.phase = .init
  · rw [tick_init hp, tick_init (s := s.reject c) hp]
    rfl
  · rw [tick_outside_init hp, tick_outside_init (s := s.reject c) hp]

/-- Settles O8: dispatch and every command reject while INIT, and TICK and the register writes do not look at ERR. -/
theorem busyRejectsEveryWord : Obligations.BusyRejectsEveryWord := by
  unfold Obligations.BusyRejectsEveryWord
  intro s hp
  exact ⟨dispatch_busy hp, exec_busy hp, tick_reject s .busy, fun _ => rfl, fun _ _ => rfl, fun _ _ => rfl⟩

/-! ## Causes (R221) -/

/-- The condition under which R221 gives the word `w` the code in state `s`, with the priority of R230; OK is no
rejection and has no cause. -/
def RejectionCause (w : Word) (s : State) : Err → Prop
  | .ok => False
  | .busy => s.phase = .init
  | .illegal => s.phase ≠ .init ∧ ∃ e, decode w = .error e
  | .notReady => s.phase = .unkeyed ∧ (decode w = .ok .xorb ∨ decode w = .ok .xorw)
  | .keySize => s.phase ≠ .init ∧ ∃ klen ivlen, decode w = .ok (.setup klen ivlen) ∧ klen ≠ 16 ∧ klen ≠ 32
  | .ivSize => s.phase ≠ .init ∧
      ∃ klen ivlen, decode w = .ok (.setup klen ivlen) ∧ (klen = 16 ∨ klen = 32) ∧ ivlen ≠ 16

/-- A word with a cause is rejected with that cause's code. -/
theorem dispatch_of_cause {w : Word} {s : State} {c : Err} (h : RejectionCause w s c) :
    dispatch w s = .next (s.reject c) := by
  cases c with
  | ok => exact h.elim
  | busy => exact dispatch_busy h w
  | illegal =>
    obtain ⟨hp, e, hd⟩ := h
    exact dispatch_illegal hp hd
  | notReady =>
    obtain ⟨hp, hd | hd⟩ := h
    · exact (dispatch_ok hd).trans (execXorb_unkeyed hp)
    · exact (dispatch_ok hd).trans (execXorw_unkeyed hp)
  | keySize =>
    obtain ⟨hp, klen, ivlen, hd, hk⟩ := h
    exact (dispatch_ok hd).trans (execSetup_keySize hp hk ivlen)
  | ivSize =>
    obtain ⟨hp, klen, ivlen, hd, hk, hv⟩ := h
    exact (dispatch_ok hd).trans (execSetup_ivSize hp hk hv)

/-- There is no other cause: a word without one is accepted. -/
theorem exists_cause_or_accepted (w : Word) (s : State) :
    (∃ c, RejectionCause w s c) ∨ ∃ t, dispatch w s = .next t ∧ t.err = .ok := by
  by_cases hp : s.phase = .init
  · exact .inl ⟨.busy, hp⟩
  cases hd : decode w with
  | error e => exact .inl ⟨.illegal, hp, e, hd⟩
  | ok i =>
    rw [dispatch_ok hd]
    cases i with
    | nop => exact .inr ⟨_, execNop_idle hp, rfl⟩
    | mula => exact .inr ⟨_, execMula_idle hp, rfl⟩
    | mulai => exact .inr ⟨_, execMulai_idle hp, rfl⟩
    | sbox => exact .inr ⟨_, execSbox_idle hp, rfl⟩
    | setup klen ivlen =>
      by_cases hk : klen = 16 ∨ klen = 32
      · by_cases hv : ivlen = 16
        · exact .inr ⟨_, hv ▸ execSetup_accepted hp hk, rfl⟩
        · exact .inl ⟨.ivSize, hp, klen, ivlen, hd, hk, hv⟩
      · exact .inl ⟨.keySize, hp, klen, ivlen, hd, not_or.mp hk⟩
    | xorb =>
      cases hq : s.phase with
      | init => exact absurd hq hp
      | unkeyed => exact .inl ⟨.notReady, hq, .inl hd⟩
      | ready => exact .inr ⟨_, execXorb_ready hq, rfl⟩
    | xorw =>
      cases hq : s.phase with
      | init => exact absurd hq hp
      | unkeyed => exact .inl ⟨.notReady, hq, .inr hd⟩
      | ready => exact .inr ⟨_, execXorw_ready hq, rfl⟩

/-- A word whose result is not OK had the cause of the code it left. -/
theorem cause_of_dispatch {w : Word} {s t : State} (h : dispatch w s = .next t) (hne : t.err ≠ .ok) :
    RejectionCause w s t.err := by
  obtain ⟨c, hc⟩ | ⟨u, hu, hok⟩ := exists_cause_or_accepted w s
  · cases h.symm.trans (dispatch_of_cause hc)
    exact hc
  · cases h.symm.trans hu
    exact absurd hok hne

theorem dispatch_err_iff {w : Word} {s t : State} (h : dispatch w s = .next t) {c : Err} (hc : c ≠ .ok) :
    t.err = c ↔ RejectionCause w s c := by
  constructor
  · rintro rfl
    exact cause_of_dispatch h hc
  · intro hcause
    cases h.symm.trans (dispatch_of_cause hcause)
    rfl

/-- Settles O9: each clause is the rejection of one cause, and the two examples are a SETUP with both lengths wrong and
an illegal word. -/
theorem errorPriority : Obligations.ErrorPriority := by
  unfold Obligations.ErrorPriority
  intro s w
  refine ⟨fun hp => dispatch_of_cause (c := .busy) hp, fun hp => ⟨?_, ?_, ?_, ?_, ?_⟩⟩
  · exact fun herr => dispatch_of_cause (c := .illegal) ⟨hp, herr⟩
  · exact fun hd hu => dispatch_of_cause (c := .notReady) ⟨hu, hd⟩
  · intro klen ivlen hd
    exact ⟨fun hk => dispatch_of_cause (c := .keySize) ⟨hp, klen, ivlen, hd, hk⟩,
      fun hk hv => dispatch_of_cause (c := .ivSize) ⟨hp, klen, ivlen, hd, hk, hv⟩⟩
  · have hsetup : decode 0x00081801 = .ok (.setup 24 8) := by decide
    exact dispatch_of_cause (c := .keySize) ⟨hp, 24, 8, hsetup, by decide⟩
  · have hillegal : decode 0x01101801 = .error .nonzeroReservedBits := by decide
    exact dispatch_of_cause (c := .illegal) ⟨hp, _, hillegal⟩

/-- Settles O10: a result other than OK has a cause, and what a cause leaves is the state before with its code. -/
theorem rejectionChangesOnlyErr : Obligations.RejectionChangesOnlyErr := by
  unfold Obligations.RejectionChangesOnlyErr
  intro s t w h hne
  have hreject : dispatch w s = .next (s.reject t.err) := dispatch_of_cause (cause_of_dispatch h hne)
  exact Host.Outcome.next.inj (h.symm.trans hreject)

/-- Settles O12: the codes are those of R221, and each row is `dispatch_err_iff` at its code. -/
theorem errorCauses : Obligations.ErrorCauses := by
  unfold Obligations.ErrorCauses
  refine ⟨⟨rfl, rfl, rfl, rfl, rfl⟩, fun s t w h => ⟨?_, ?_, ?_, ?_, ?_⟩⟩
  all_goals exact dispatch_err_iff h (by decide)

/-! ## Who writes ERR (R220) -/

/-- A step that changes ERR is a reset or the host's write of a word to CMD. -/
theorem step_err {s t : State} (h : step s = .next t) (hne : t.err ≠ s.err) :
    s.resets = true ∨ ∃ w, s.writes .cmd w := by
  cases step_next h with
  | idle _ _ ht => exact absurd (by rw [ht]; rfl) hne
  | poll rest _ _ ht => exact absurd (by rw [ht, pollReady_frame]; rfl) hne
  | read r rest _ _ ht => exact absurd (by rw [ht]; rfl) hne
  | reset hm _ => exact .inl hm
  | tick _ ht => exact absurd (by rw [ht, tick_frame]; rfl) hne
  | write r v rest hm hp ht =>
    obtain ⟨rfl, -⟩ | ⟨-, rfl⟩ := busWrite_next ht
    · exact .inr ⟨v, writes_of_program hm hp⟩
    · exact absurd (writeReg_err ..) hne

/-- Bits 11:8 of STATUS are the code of ERR (R35). -/
theorem status_extract_err (s : State) : s.status.extractLsb' 8 4 = s.err.code := by
  obtain ⟨-, -, -, -, -, herr, -⟩ := statusLayout s
  exact herr

theorem err_code_mem (c : Err) : c.code ∈ [0, 1, 2, 3, 4, 5] := by
  cases c <;> decide

/-- Settles O11: dispatch is total and STATUS shows its code; the writers of ERR are `step_err`. -/
theorem errChangesOnlyAtCommands : Obligations.ErrChangesOnlyAtCommands := by
  unfold Obligations.ErrChangesOnlyAtCommands
  refine ⟨fun s w => ?_, fun s t => step_err⟩
  obtain ⟨t, ht⟩ := exists_dispatch_eq_next w s
  exact ⟨t, ht, status_extract_err t, err_code_mem t.err⟩

end Sys2Proof
end

section
/-! SUPPORT AND PROOFS. Reset as one step (spec/70_reset_and_hazards.md R250): what the state after a reset turn is,
and what TICKs and keystream commands do there. -/

namespace Sys2Proof
open Machine

/-- After a reset STATUS reads 0: it shows no register of the environment, so R41's table decides it. -/
theorem resetBlock_status (s : State) : s.resetBlock.status = 0 := by
  have hstatus : State.reset.status = 0 := by decide
  exact hstatus

/-- Outside INIT no number of TICKs does anything (R170): an init sequence a reset has abandoned does not go on. -/
theorem tick_iterate_outside_init {s : State} (h : s.phase ≠ .init) (n : Nat) : tick^[n] s = s :=
  Function.iterate_fixed (tick_outside_init h) n

/-- Settles O55: by `step_resets` the next state is the reset block, which is UNKEYED, so TICKs are idle there and
the keystream commands are not ready. -/
theorem resetStep : Obligations.ResetStep := by
  unfold Obligations.ResetStep
  intro s turns hs
  have hresets : s.resets = true := by simp [State.resets, hs]
  have hphase : s.spendTurn.resetBlock.phase = .unkeyed := rfl
  exact ⟨s.spendTurn.resetBlock, step_resets hresets, rfl, hphase, rfl, rfl, resetBlock_status _,
    tick_iterate_outside_init (by rw [hphase]; decide), exec_xorb_unkeyed hphase, exec_xorw_unkeyed hphase⟩

end Sys2Proof
end

section
/-! SUPPORT AND PROOFS. The known-answer vectors (spec/95_test_vectors.md sections 1.1 and 5.1): closed runs of the
cipher, settled by evaluation. -/

namespace Sys2Proof
open Machine

set_option Elab.async false in
/-- Settles O40, by evaluation word by word. It is elaborated on the main thread, which keeps the declarations after
it from waiting, a stack each, for the kernel to finish the tests before it. -/
theorem knownAnswers : Obligations.KnownAnswers := by
  unfold Obligations.KnownAnswers
  simp only [List.range, List.range.loop, List.map_cons, List.map_nil, List.cons.injEq, and_true]
  refine ⟨?_, ?_⟩
  · rintro v1 rfl
    refine ⟨?_, ?_, ?_, ?_, ?_, ?_⟩ <;> decide
  · rintro v2 rfl
    refine ⟨?_, ?_, ?_, ?_, ?_⟩ <;> decide

end Sys2Proof
end

section
/-! SUPPORT AND PROOFS. Decoder and encoder are inverse to each other (spec/30_encoding.md R80 to R84), the words of
95_test_vectors.md section 2, and the step that runs a command word (R34, R85). -/

namespace Sys2Proof
open Machine

/-! ## Decoding an encoded command -/

theorem rowOf_mem_opcodeMap (i : Instr) : rowOf i ∈ opcodeMap := by
  cases i <;> simp [rowOf, opcodeMap]

/-- `Laws.EncodedRow.Statement` of every command. -/
theorem encodedRow (i : Instr) : Laws.EncodedRow.Statement i := by
  cases i with
  | nop => exact Laws.EncodedRow.nop
  | setup klen ivlen => exact Laws.EncodedRow.setup klen ivlen
  | xorb => exact Laws.EncodedRow.xorb
  | xorw => exact Laws.EncodedRow.xorw
  | mula => exact Laws.EncodedRow.mula
  | mulai => exact Laws.EncodedRow.mulai
  | sbox => exact Laws.EncodedRow.sbox

/-- The operand fields of an encoded command hold its operands, since they fit (R82). -/
theorem operandsOf_encode {i : Instr} (hi : i.WellFormed) : i.OperandsOf (encode i) := by
  cases i with
  | setup klen ivlen =>
    obtain ⟨hk, hv⟩ := hi
    rw [encode_setup klen ivlen hk hv]
    constructor
    · rw [klenField_eq, byteOf_be32_1, BitVec.toNat_ofNat, Nat.mod_eq_of_lt hk]
    · rw [ivlenField_eq, byteOf_be32_2, BitVec.toNat_ofNat, Nat.mod_eq_of_lt hv]
  | _ => trivial

/-- Settles O2: the word of a command selects its row and carries its operands. -/
theorem decodeAfterEncode : Obligations.DecodeAfterEncode := by
  unfold Obligations.DecodeAfterEncode
  intro i hi
  have hrow : (rowOf i).selects (encode i) = true := (encodedRow i hi _ (rowOf_mem_opcodeMap i)).mpr rfl
  exact (decode_eq_ok_iff _ i).mpr ⟨hrow, operandsOf_encode hi⟩

/-! ## Encoding a decoded word -/

/-- Operands read from the 8-bit fields of a word fit them. -/
theorem wellFormed_of_operandsOf {w : Word} {i : Instr} (h : i.OperandsOf w) : i.WellFormed := by
  cases i with
  | setup klen ivlen =>
    obtain ⟨rfl, rfl⟩ := h
    exact ⟨BitVec.isLt _, BitVec.isLt _⟩
  | _ => trivial

/-- Settles O3: a Format C0 row selects one word only, and the bytes of a SETUP word are 1, its operands and 0. -/
theorem encodeAfterDecode : Obligations.EncodeAfterDecode := by
  unfold Obligations.EncodeAfterDecode
  intro w i h
  obtain ⟨hrow, hops⟩ := (decode_eq_ok_iff w i).mp h
  have hwf := wellFormed_of_operandsOf hops
  refine ⟨hwf, ?_⟩
  cases i with
  | setup klen ivlen => rw [encode_setup klen ivlen hwf.1 hwf.2, ← eq_be32_of_decode_setup h]
  | _ => exact ((formatC0_selects _ w).mp hrow).symm

/-! ## The words of 95_test_vectors.md section 2 -/

/-- The words of the table that carry a SETUP with a wrong length, and the illegal ones, with the error each names:
the state enters the cause by PHASE only. -/
theorem rejectionCause_of_table {s : State} (hp : s.phase ≠ .init) :
    (∀ w ∈ [0x00101801, 0x00081801, 0x00000001, 0x00FFFF01], RejectionCause w s .keySize) ∧
    (∀ w ∈ [0x00081001, 0x00201001], RejectionCause w s .ivSize) ∧
    (∀ w ∈ [0x00000004, 0x000000FF, 0x00000013, 0x00000100, 0x00000102, 0x80000010, 0x01101001, 0x01101801],
      RejectionCause w s .illegal) := by
  simp only [List.forall_mem_cons, List.not_mem_nil, false_imp_iff, implies_true, and_true]
  refine ⟨⟨?_, ?_, ?_, ?_⟩, ⟨?_, ?_⟩, ?_, ?_, ?_, ?_, ?_, ?_, ?_, ?_⟩
  · exact ⟨hp, 24, 16, by decide⟩
  · exact ⟨hp, 24, 8, by decide⟩
  · exact ⟨hp, 0, 0, by decide⟩
  · exact ⟨hp, 255, 255, by decide⟩
  · exact ⟨hp, 16, 8, by decide⟩
  · exact ⟨hp, 16, 32, by decide⟩
  all_goals exact ⟨hp, _, rfl⟩

/-- Settles O1: the words decode by evaluation, and each erroneous one has the cause of its error. -/
theorem tableWordsDecode : Obligations.TableWordsDecode := by
  unfold Obligations.TableWordsDecode
  refine ⟨by decide, fun s hp => ?_⟩
  obtain ⟨hkey, hiv, hillegal⟩ := rejectionCause_of_table hp
  exact ⟨fun w hw => dispatch_of_cause (hkey w hw), fun w hw => dispatch_of_cause (hiv w hw),
    fun w hw => dispatch_of_cause (hillegal w hw)⟩

/-! ## The step of a command word -/

/-- Settles O7: CMD stands at BASE, a write to it is a dispatch, and dispatch of a legal word is its command. -/
theorem stepRunsTheDecodedCommand : Obligations.StepRunsTheDecodedCommand := by
  unfold Obligations.StepRunsTheDecodedCommand
  intro s i w rest hd hp
  have hcmd : s.program = .wr .word (s.base + Reg.cmd.offset) w :: rest := hp
  refine ⟨fun turns hs => (step_write hcmd hs).trans (dispatch_ok hd), fun hs => ?_⟩
  calc step s = hostStep s := step_unscheduled hs hp nofun
    _ = dispatch w { s with program := rest } := hostStep_write hcmd
    _ = exec i { s with program := rest } := dispatch_ok hd

end Sys2Proof
end

section
/-! SUPPORT AND PROOFS. What the commands write and what they leave: the frames of NOP, MULA, MULAI and SBOX (R107,
R108, R124, R210), of XORB and XORW (R192, R194) and of SETUP (R161, R162), and the registers no command writes. -/

namespace Sys2Proof
open Machine

/-! ## The frame of each group of commands -/

/-- Settles O22: a rejection changes ERR only, and an accepted command has the effect of its rule. -/
theorem testAccessFrame : Obligations.TestAccessFrame := by
  unfold Obligations.TestAccessFrame
  intro s t
  constructor
  · intro h
    obtain ⟨c, -, rfl⟩ | ⟨hp, -⟩ := exec_next h
    · rfl
    · cases (exec_nop_idle hp).symm.trans h
      rfl
  · intro i hi h
    obtain ⟨c, -, rfl⟩ | ⟨hp, -⟩ := exec_next h
    · rfl
    · obtain rfl | rfl | rfl := hi
      · cases (exec_mula_idle hp).symm.trans h
        rfl
      · cases (exec_mulai_idle hp).symm.trans h
        rfl
      · cases (exec_sbox_idle hp).symm.trans h
        rfl

/-- Outside READY a keystream command is rejected, with E_NOTREADY or E_BUSY. -/
theorem exec_stream_of_not_ready {s : State} {i : Instr} (hi : i = .xorb ∨ i = .xorw) (hp : s.phase ≠ .ready) :
    ∃ c, exec i s = .next (s.reject c) := by
  cases hq : s.phase with
  | ready => exact absurd hq hp
  | init => exact ⟨.busy, exec_busy hq i⟩
  | unkeyed =>
    obtain rfl | rfl := hi
    · exact ⟨.notReady, exec_xorb_unkeyed hq⟩
    · exact ⟨.notReady, exec_xorw_unkeyed hq⟩

/-- Settles O23: outside READY the command is a rejection, in READY it is one call of the byte source or one clock. -/
theorem streamFrame : Obligations.StreamFrame := by
  unfold Obligations.StreamFrame
  intro s t i hi h
  by_cases hp : s.phase = .ready
  · refine ⟨?_, fun hn => absurd hp hn, ?_, ?_⟩
    · obtain rfl | rfl := hi
      · cases (exec_xorb_ready hp).symm.trans h
        rw [nextKsByte_frame]
      · cases (exec_xorw_ready hp).symm.trans h
        rfl
    · rintro rfl hk
      cases (exec_xorb_ready hp).symm.trans h
      exact sameCipher_nextKsByte_residual hk
    · rintro rfl
      cases (exec_xorw_ready hp).symm.trans h
      rfl
  · obtain ⟨c, hc⟩ := exec_stream_of_not_ready hi hp
    cases hc.symm.trans h
    exact ⟨rfl, fun _ => rfl, fun _ _ => ⟨.refl s, rfl⟩, fun _ => rfl⟩

/-- While INIT, and with a wrong length, SETUP is rejected. -/
theorem exec_setup_of_not_accepted {s : State} {klen ivlen : Nat}
    (h : s.phase = .init ∨ ¬ LegalLengths klen ivlen) :
    ∃ c, c ≠ .ok ∧ exec (.setup klen ivlen) s = .next (s.reject c) := by
  by_cases hp : s.phase = .init
  · exact ⟨.busy, by decide, exec_busy hp _⟩
  · by_cases hk : klen = 16 ∨ klen = 32
    · have hv : ivlen ≠ 16 := fun hv => h.elim hp fun hn => hn ⟨hk, hv⟩
      exact ⟨.ivSize, by decide, execSetup_ivSize hp hk hv⟩
    · exact ⟨.keySize, by decide, execSetup_keySize hp (not_or.mp hk) ivlen⟩

/-- Settles O24: SETUP is a rejection or, while BUSY = 0 and with legal lengths, the load. -/
theorem setupFrame : Obligations.SetupFrame := by
  unfold Obligations.SetupFrame
  intro s t klen ivlen h
  by_cases hreject : s.phase = .init ∨ ¬ LegalLengths klen ivlen
  · obtain ⟨c, hc, hexec⟩ := exec_setup_of_not_accepted hreject
    cases hexec.symm.trans h
    exact ⟨rfl, fun _ => ⟨rfl, hc⟩⟩
  · refine ⟨?_, fun hr => absurd hr hreject⟩
    obtain ⟨hp, hlegal⟩ := not_or.mp hreject
    obtain ⟨hk, rfl⟩ := not_not.mp hlegal
    obtain rfl := Host.Outcome.next.inj ((execSetup_accepted hp hk).symm.trans h)
    rw [load_accept]

/-! ## What no command writes -/

/-- No command writes DIN, KEY, IV or the environment. -/
theorem exec_frame {i : Instr} {s t : State} (h : exec i s = .next t) :
    t = { s with
      lfsr := t.lfsr, r1 := t.r1, r2 := t.r2, kbuf := t.kbuf, krem := t.krem, phase := t.phase, icnt := t.icnt
      err := t.err, dout := t.dout } := by
  cases i with
  | setup klen ivlen =>
    rw [(setupFrame s t klen ivlen h).1]
  | xorb => rw [(streamFrame s t _ (.inl rfl) h).1]
  | xorw => rw [(streamFrame s t _ (.inr rfl) h).1]
  | nop => rw [(testAccessFrame s t).1 h]
  | mula => rw [(testAccessFrame s t).2 _ (by simp) h]
  | mulai => rw [(testAccessFrame s t).2 _ (by simp) h]
  | sbox => rw [(testAccessFrame s t).2 _ (by simp) h]

theorem dispatch_frame {w : Word} {s t : State} (h : dispatch w s = .next t) :
    t = { s with
      lfsr := t.lfsr, r1 := t.r1, r2 := t.r2, kbuf := t.kbuf, krem := t.krem, phase := t.phase, icnt := t.icnt
      err := t.err, dout := t.dout } := by
  obtain ⟨c, -, rfl⟩ | ⟨-, i, -, he⟩ := dispatch_next h
  · rfl
  · exact exec_frame he

end Sys2Proof
end

section
/-! SUPPORT AND PROOFS. Who writes the cipher state and the init sequencer (spec/10_state.md R22 to R28): one inversion
lemma for a command, a command word and a step, and from it the commands that keep the stream position (R195), the
writers of every register of the sequencer, and the invariant of the control state (R28, R25, R7). -/

namespace Sys2Proof
open Machine

/-! ## The sequencer's registers -/

/-- The same keystream position, PHASE and ICNT. -/
def SameSequencer (s t : State) : Prop := SameStream s t ∧ s.phase = t.phase ∧ s.icnt = t.icnt

theorem SameSequencer.refl (s : State) : SameSequencer s s := ⟨.refl s, rfl, rfl⟩

theorem SameSequencer.trans {s t u : State} (h : SameSequencer s t) (h' : SameSequencer t u) : SameSequencer s u :=
  ⟨h.1.trans h'.1, h.2.1.trans h'.2.1, h.2.2.trans h'.2.2⟩

theorem sameSequencer_reject (s : State) (c : Err) : SameSequencer (s.reject c) s := .refl s

theorem sameSequencer_accept (s : State) : SameSequencer s.accept s := .refl s

theorem sameSequencer_testAccess (s : State) (f : Word → Word) : SameSequencer (testAccess s f) s := .refl s

theorem sameSequencer_pollReady (rest : List HostOp) (s : State) : SameSequencer (pollReady rest s) s := by
  rw [pollReady_frame]
  exact .refl s

theorem sameSequencer_writeReg (s : State) (v : Word) (r : Reg) : SameSequencer (s.writeReg v r) s := by
  cases r <;> exact .refl s

/-- What a command does to the sequencer: nothing, the load of an accepted SETUP, or, in READY, keystream is taken. -/
def SequencerEffect (i : Instr) (s t : State) : Prop :=
  SameSequencer t s ∨
  (s.phase ≠ .init ∧ ∃ klen, i = .setup klen 16 ∧ (klen = 16 ∨ klen = 32) ∧ t = (load klen s).accept) ∨
  (s.phase = .ready ∧ (i = .xorb ∨ i = .xorw) ∧ t.phase = .ready ∧ t.icnt = s.icnt)

theorem exec_sequencer {i : Instr} {s t : State} (h : exec i s = .next t) : SequencerEffect i s t := by
  obtain ⟨c, -, rfl⟩ | ⟨hp, hcase⟩ := exec_next h
  · exact .inl (sameSequencer_reject s c)
  · obtain ⟨-, rfl⟩ | ⟨-, rfl⟩ | ⟨-, rfl⟩ | ⟨-, rfl⟩ | hsetup | ⟨hr, hi, rfl⟩ | ⟨hr, hi, rfl⟩ := hcase
    · exact .inl (sameSequencer_accept s)
    · exact .inl (sameSequencer_testAccess s _)
    · exact .inl (sameSequencer_testAccess s _)
    · exact .inl (sameSequencer_testAccess s _)
    · exact .inr (.inl ⟨hp, hsetup⟩)
    · exact .inr (.inr ⟨hr, .inl hi, by rw [nextKsByte_frame]; exact hr, by rw [nextKsByte_frame]⟩)
    · exact .inr (.inr ⟨hr, .inr hi, by rw [nextKsWord_state]; exact hr, by rw [nextKsWord_state]; rfl⟩)

/-- A command word keeps the sequencer's registers, or decodes to a command that does not. -/
theorem dispatch_sequencer {w : Word} {s t : State} (h : dispatch w s = .next t) :
    SameSequencer t s ∨ ∃ i, decode w = .ok i ∧ SequencerEffect i s t := by
  obtain ⟨c, -, rfl⟩ | ⟨-, i, hd, he⟩ := dispatch_next h
  · exact .inl (sameSequencer_reject s c)
  · exact .inr ⟨i, hd, exec_sequencer he⟩

/-! ## Quiet commands (R195) -/

/-- A quiet command word leaves the keystream position, PHASE and ICNT. -/
theorem sameSequencer_of_quiet {w : Word} (hq : Quiet w) {s t : State} (h : dispatch w s = .next t) :
    SameSequencer t s := by
  obtain hsame | ⟨i, hd, he⟩ := dispatch_sequencer h
  · exact hsame
  · obtain ⟨hxorb, hxorw, hsetup⟩ := hq i hd
    obtain hsame | ⟨-, klen, hi, hk, -⟩ | ⟨-, hi, -⟩ := he
    · exact hsame
    · exact absurd ⟨hk, rfl⟩ (hsetup klen 16 hi)
    · exact absurd hi (not_or.mpr ⟨hxorb, hxorw⟩)

/-- The word of a command other than SETUP, XORB and XORW is quiet. -/
theorem quiet_of_decode {w : Word} {i : Instr} (hd : decode w = .ok i)
    (hi : i = .nop ∨ i = .mula ∨ i = .mulai ∨ i = .sbox) : Quiet w := by
  intro j hj
  obtain rfl := Except.ok.inj (hd.symm.trans hj)
  obtain rfl | rfl | rfl | rfl := hi <;> simp

/-- Settles O36: quiet words by `sameSequencer_of_quiet`, rejections because they change ERR only (R222). -/
theorem quietCommandsKeepTheStream : Obligations.QuietCommandsKeepTheStream := by
  unfold Obligations.QuietCommandsKeepTheStream
  refine ⟨fun s t w hq h => ?_, fun s t w h hne => ?_, ?_, ?_, ?_, ?_⟩
  · obtain ⟨hstream, hphase, -⟩ := sameSequencer_of_quiet hq h
    exact ⟨hstream, hphase⟩
  · rw [rejectionChangesOnlyErr s t w h hne]
    exact ⟨.refl s, rfl⟩
  · exact quiet_of_decode (i := .nop) (by decide) (by simp)
  · exact quiet_of_decode (i := .mula) (by decide) (by simp)
  · exact quiet_of_decode (i := .mulai) (by decide) (by simp)
  · exact quiet_of_decode (i := .sbox) (by decide) (by simp)

/-! ## Every step -/

/-- What a step does to the sequencer's registers: nothing, a reset, an init TICK, an accepted SETUP, or, in READY,
keystream is taken. -/
def SequencerStep (s t : State) : Prop :=
  SameSequencer t s ∨
  (s.resets = true ∧ t.phase = .unkeyed ∧ t.icnt = 0 ∧ t.krem = 0) ∨
  ((s.coreMoves = true ∧ s.phase = .init) ∧ t.kbuf = s.kbuf ∧ t.krem = s.krem ∧ t.icnt = s.icnt + 1 ∧
    t.phase = if s.icnt = 31 then .ready else .init) ∨
  ((∃ w, s.writes .cmd w ∧ s.phase ≠ .init ∧
      ∃ klen ivlen, decode w = .ok (.setup klen ivlen) ∧ LegalLengths klen ivlen) ∧
    t.phase = .init ∧ t.icnt = 0 ∧ t.krem = 0) ∨
  ((∃ w, s.writes .cmd w ∧ s.phase = .ready ∧ (decode w = .ok .xorb ∨ decode w = .ok .xorw)) ∧
    t.phase = .ready ∧ t.icnt = s.icnt)

/-- The write of a command word, in the terms of `SequencerStep`; `u` is the state with the host's access taken. -/
theorem sequencerStep_of_dispatch {s t u : State} {w : Word} (hw : s.writes .cmd w) (hu : SameSequencer u s)
    (h : dispatch w u = .next t) : SequencerStep s t := by
  obtain hsame | ⟨i, hd, he⟩ := dispatch_sequencer h
  · exact .inl (hsame.trans hu)
  · have ⟨_, hphase, hicnt⟩ := hu
    obtain hsame | ⟨hp, klen, rfl, hk, rfl⟩ | ⟨hp, hi, hphase', hicnt'⟩ := he
    · exact .inl (hsame.trans hu)
    · exact .inr (.inr (.inr (.inl ⟨⟨w, hw, hphase ▸ hp, klen, 16, hd, hk, rfl⟩, rfl, rfl, rfl⟩)))
    · have hstream : decode w = .ok .xorb ∨ decode w = .ok .xorw := by simpa [hd] using hi
      exact .inr (.inr (.inr (.inr ⟨⟨w, hw, hphase ▸ hp, hstream⟩, hphase', hicnt'.trans hicnt⟩)))

/-- Everything a step can do to the sequencer's registers. -/
theorem step_sequencer {s t : State} (h : step s = .next t) : SequencerStep s t := by
  cases step_next h with
  | idle _ _ ht => exact .inl (ht ▸ .refl s)
  | poll rest _ _ ht => exact .inl (ht ▸ sameSequencer_pollReady rest s.spendTurn)
  | read r rest _ _ ht => exact .inl (ht ▸ .refl s)
  | reset hm ht => exact .inr (.inl ⟨hm, ht ▸ ⟨rfl, rfl, rfl⟩⟩)
  | tick hm ht =>
    subst ht
    by_cases hp : s.phase = .init
    · have htick : tick s.spendTurn = _ := tick_init_icnt hp
      rw [htick]
      exact .inr (.inr (.inl ⟨⟨hm, hp⟩, rfl, rfl, rfl, rfl⟩))
    · rw [tick_outside_init (s := s.spendTurn) hp]
      exact .inl (.refl s)
  | write r v rest hm hp ht =>
    obtain ⟨rfl, hd⟩ | ⟨-, rfl⟩ := busWrite_next ht
    · have hw : s.writes .cmd v := writes_of_program hm hp
      exact sequencerStep_of_dispatch (u := { s.spendTurn with program := rest }) hw (.refl s) hd
    · exact .inl (sameSequencer_writeReg _ v r)

/-- Settles O51: the cases of `SequencerStep` name the writers. -/
theorem cipherStateWriters : Obligations.CipherStateWriters := by
  unfold Obligations.CipherStateWriters
  intro s t h setsUp takesKeystream initTick
  obtain ⟨⟨hcipher, hkbuf, hkrem⟩, -, hicnt⟩ | ⟨hm, -⟩ | ⟨htick, hkbuf, hkrem, -⟩ | ⟨hsetup, -⟩ |
    ⟨hstream, -, hicnt⟩ := step_sequencer h
  · exact ⟨absurd hcipher, fun hne => absurd ⟨hkbuf, hkrem⟩ (not_and_or.mpr hne), absurd hicnt⟩
  · exact ⟨fun _ => .inl hm, fun _ => .inl hm, fun _ => .inl hm⟩
  · exact ⟨fun _ => .inr (.inl htick), fun hne => absurd ⟨hkbuf, hkrem⟩ (not_and_or.mpr hne),
      fun _ => .inr (.inl htick)⟩
  · exact ⟨fun _ => .inr (.inr (.inl hsetup)), fun _ => .inr (.inl hsetup), fun _ => .inr (.inr hsetup)⟩
  · exact ⟨fun _ => .inr (.inr (.inr hstream)), fun _ => .inr (.inr hstream), absurd hicnt⟩

/-! ## The environment -/

/-- A poll keeps the rest of the program or drops the wait_ready. -/
theorem pollReady_program (rest : List HostOp) (s : State) :
    (pollReady rest s).program = s.program ∨ (pollReady rest s).program = rest := by
  unfold pollReady
  split
  · exact .inl rfl
  · exact .inr rfl

/-- Settles O56: the host's operations take their own access, and nothing else touches the environment. -/
theorem environmentFrame : Obligations.EnvironmentFrame := by
  unfold Obligations.EnvironmentFrame
  intro s t h
  cases step_next h with
  | idle _ _ ht =>
    subst ht
    exact ⟨rfl, rfl, .inl rfl, .inl rfl⟩
  | tick _ ht =>
    subst ht
    rw [tick_frame]
    exact ⟨rfl, rfl, .inl rfl, .inl rfl⟩
  | reset _ ht =>
    subst ht
    exact ⟨rfl, rfl, .inl rfl, .inl rfl⟩
  | poll rest hm hp ht =>
    subst ht
    rw [pollReady_frame]
    have htail : s.program.tail = rest := by rw [hp]; rfl
    exact ⟨rfl, rfl, (pollReady_program rest s.spendTurn).imp_right fun h => ⟨hm, h.trans htail.symm⟩,
      .inr ⟨hm, _, rfl⟩⟩
  | read r rest hm hp ht =>
    subst ht
    have htail : s.program.tail = rest := by rw [hp]; rfl
    exact ⟨rfl, rfl, .inr ⟨hm, htail.symm⟩, .inr ⟨hm, _, rfl⟩⟩
  | write r v rest hm hp ht =>
    have htail : s.program.tail = rest := by rw [hp]; rfl
    obtain ⟨rfl, hd⟩ | ⟨-, rfl⟩ := busWrite_next ht
    · rw [dispatch_frame hd]
      exact ⟨rfl, rfl, .inr ⟨hm, htail.symm⟩, .inl rfl⟩
    · exact ⟨writeReg_base .., writeReg_schedule .., .inr ⟨hm, (writeReg_program ..).trans htail.symm⟩,
        .inl (writeReg_reads ..)⟩

/-! ## The operand registers -/

/-- A write changes no register of DIN, KEY and IV but the one it addresses. -/
theorem writeReg_operands (s : State) (v : Word) (r : Reg) :
    ((s.writeReg v r).din = s.din ∨ r = .din ∧ (s.writeReg v r).din = v) ∧
    (∀ i : Fin 8, (s.writeReg v r).key[i] = s.key[i] ∨ r = .key i ∧ (s.writeReg v r).key[i] = v) ∧
    (∀ j : Fin 4, (s.writeReg v r).iv[j] = s.iv[j] ∨ r = .iv j ∧ (s.writeReg v r).iv[j] = v) := by
  cases r with
  | din => exact ⟨.inr ⟨rfl, rfl⟩, fun i => .inl rfl, fun j => .inl rfl⟩
  | key k =>
    refine ⟨.inl rfl, fun i => ?_, fun j => .inl rfl⟩
    by_cases hik : k = i
    · subst hik
      exact .inr ⟨rfl, by simp⟩
    · exact .inl (by simp [Fin.val_ne_of_ne hik])
  | iv k =>
    refine ⟨.inl rfl, fun i => .inl rfl, fun j => ?_⟩
    by_cases hjk : k = j
    · subst hjk
      exact .inr ⟨rfl, by simp⟩
    · exact .inl (by simp [Fin.val_ne_of_ne hjk])
  | _ => exact ⟨.inl rfl, fun i => .inl rfl, fun j => .inl rfl⟩

/-- Settles O53: a register write is `writeReg_operands`, and no other step but reset writes an operand register. -/
theorem operandRegisterWriters : Obligations.OperandRegisterWriters := by
  unfold Obligations.OperandRegisterWriters
  intro s t h hreset
  suffices hsame : (t.din = s.din ∧ t.key = s.key ∧ t.iv = s.iv) ∨
      ∃ r v rest, s.writes r v ∧ t = ({ s.spendTurn with program := rest } : State).writeReg v r by
    obtain ⟨hdin, hkey, hiv⟩ | ⟨r, v, rest, hw, rfl⟩ := hsame
    · exact ⟨.inl hdin, fun i => .inl (by rw [hkey]), fun j => .inl (by rw [hiv])⟩
    · obtain ⟨hdin, hkey, hiv⟩ := writeReg_operands { s.spendTurn with program := rest } v r
      exact ⟨hdin.imp_right fun ⟨hr, hv⟩ => ⟨v, hr ▸ hw, hv⟩,
        fun i => (hkey i).imp_right fun ⟨hr, hv⟩ => ⟨v, hr ▸ hw, hv⟩,
        fun j => (hiv j).imp_right fun ⟨hr, hv⟩ => ⟨v, hr ▸ hw, hv⟩⟩
  cases step_next h with
  | idle _ _ ht => exact .inl (ht ▸ ⟨rfl, rfl, rfl⟩)
  | tick _ ht =>
    rw [ht, tick_frame]
    exact .inl ⟨rfl, rfl, rfl⟩
  | reset hm => exact absurd hm (by simp [hreset])
  | poll rest _ _ ht =>
    rw [ht, pollReady_frame]
    exact .inl ⟨rfl, rfl, rfl⟩
  | read r rest _ _ ht => exact .inl (ht ▸ ⟨rfl, rfl, rfl⟩)
  | write r v rest hm hp ht =>
    obtain ⟨rfl, hd⟩ | ⟨-, rfl⟩ := busWrite_next ht
    · rw [dispatch_frame hd]
      exact .inl ⟨rfl, rfl, rfl⟩
    · exact .inr ⟨r, v, rest, writes_of_program hm hp, rfl⟩

/-! ## The invariant (R28, R25, R7) -/

/-- Settles O49: ICNT and KREM are 0 in UNKEYED, and BASE 0 is aligned. -/
theorem resetHasInv : Obligations.ResetHasInv := by
  unfold Obligations.ResetHasInv
  exact ⟨fun _ => rfl, nofun, nofun, fun _ => rfl, rfl⟩

/-- In INIT the invariant is the range of ICNT, beside KREM and BASE. -/
theorem inv_of_init {s : State} (hp : s.phase = .init) (hi : s.icnt.toNat ≤ 31) (hk : s.krem = 0)
    (hb : s.base % 64 = 0) : s.Inv where
  unkeyed_icnt h := by rw [hp] at h; cases h
  init_icnt _ := hi
  ready_icnt h := by rw [hp] at h; cases h
  no_residual _ := hk
  base_aligned := hb

/-- In READY the invariant fixes ICNT and leaves KREM free. -/
theorem inv_of_ready {s : State} (hp : s.phase = .ready) (hi : s.icnt = 32) (hb : s.base % 64 = 0) : s.Inv where
  unkeyed_icnt h := by rw [hp] at h; cases h
  init_icnt h := by rw [hp] at h; cases h
  ready_icnt _ := hi
  no_residual h := absurd hp h
  base_aligned := hb

theorem inv_of_unkeyed {s : State} (hp : s.phase = .unkeyed) (hi : s.icnt = 0) (hk : s.krem = 0)
    (hb : s.base % 64 = 0) : s.Inv where
  unkeyed_icnt _ := hi
  init_icnt h := by rw [hp] at h; cases h
  ready_icnt h := by rw [hp] at h; cases h
  no_residual _ := hk
  base_aligned := hb

/-- The invariant looks at PHASE, ICNT, KREM and BASE only. -/
theorem inv_congr {s t : State} (h : s.Inv) (hsame : SameSequencer t s) (hbase : t.base = s.base) : t.Inv := by
  obtain ⟨⟨-, -, hkrem⟩, hphase, hicnt⟩ := hsame
  constructor
  · rw [hphase, hicnt]; exact h.unkeyed_icnt
  · rw [hphase, hicnt]; exact h.init_icnt
  · rw [hphase, hicnt]; exact h.ready_icnt
  · rw [hphase, hkrem]; exact h.no_residual
  · rw [hbase]; exact h.base_aligned

/-- ICNT does not wrap around in INIT. -/
theorem icnt_succ_toNat {c : BitVec 6} (hc : c.toNat ≤ 31) : (c + 1).toNat = c.toNat + 1 := by
  rw [BitVec.toNat_add]
  simp
  omega

/-- Settles O48: one case for each way a step can treat the sequencer; BASE is `environmentFrame`. -/
theorem stepKeepsInv : Obligations.StepKeepsInv := by
  unfold Obligations.StepKeepsInv
  intro s t hinv h
  obtain ⟨hbase, -⟩ := environmentFrame s t h
  have haligned : t.base % 64 = 0 := hbase ▸ hinv.base_aligned
  obtain hsame | ⟨-, hphase, hicnt, hkrem⟩ | ⟨⟨-, hp⟩, -, hkrem, hicnt, hphase⟩ | ⟨-, hphase, hicnt, hkrem⟩ |
    ⟨⟨w, -, hp, -⟩, hphase, hicnt⟩ := step_sequencer h
  · exact inv_congr hinv hsame hbase
  · exact inv_of_unkeyed hphase hicnt hkrem haligned
  · by_cases hlast : s.icnt = 31
    · rw [if_pos hlast] at hphase
      exact inv_of_ready hphase (by rw [hicnt, hlast]; rfl) haligned
    · rw [if_neg hlast] at hphase
      have hkrem0 : t.krem = 0 := hkrem.trans (hinv.no_residual (by simp [hp]))
      have hle := hinv.init_icnt hp
      have hne : s.icnt.toNat ≠ 31 := fun h => hlast (BitVec.eq_of_toNat_eq h)
      have hicnt31 : t.icnt.toNat ≤ 31 := by
        rw [hicnt, icnt_succ_toNat hle]
        omega
      exact inv_of_init hphase hicnt31 hkrem0 haligned
  · exact inv_of_init hphase (by rw [hicnt]; decide) hkrem haligned
  · exact inv_of_ready hphase (hicnt.trans (hinv.ready_icnt hp)) haligned

end Sys2Proof
end

section
/-! SUPPORT AND PROOFS. What a host can observe (spec/10_state.md R40, R41): before the first SETUP, no step depends
on S, R1, R2 or KBUF. -/

namespace Sys2Proof
open Machine

/-! ## States that differ in hidden state -/

theorem sameButHidden_refl (s : State) : SameButHidden s s :=
  ⟨rfl, rfl, rfl, rfl, rfl, rfl, rfl, rfl, rfl, rfl, rfl, rfl, fun _ => ⟨.refl s, rfl⟩⟩

theorem sameOutcome_refl (r : Result) : SameOutcome r r := by
  cases r with
  | next s => exact sameButHidden_refl s
  | fault e => rfl
  | refused e => rfl

/-- The same state with other values in S, R1, R2 and KBUF. -/
def withHidden (s : State) (l : Vector Word 16) (a b c : Word) : State :=
  { s with lfsr := l, r1 := a, r2 := b, kbuf := c }

/-- While UNKEYED, states that differ in hidden state only are related. -/
theorem sameButHidden_withHidden {s : State} (hp : s.phase = .unkeyed) (l : Vector Word 16) (a b c : Word) :
    SameButHidden s (withHidden s l a b c) :=
  ⟨rfl, rfl, rfl, rfl, rfl, rfl, rfl, rfl, rfl, rfl, rfl, rfl, fun hn => absurd hp hn⟩

/-- Related states are equal once keyed, and while UNKEYED they differ in hidden state only. -/
theorem eq_or_eq_withHidden {s t : State} (h : SameButHidden s t) :
    s = t ∨ (s.phase = .unkeyed ∧ ∃ l a b c, t = withHidden s l a b c) := by
  obtain ⟨hkrem, hphase, hicnt, herr, hdin, hdout, hkey, hiv, hbase, hprogram, hschedule, hreads, hhidden⟩ := h
  by_cases hp : s.phase = .unkeyed
  · exact .inr ⟨hp, t.lfsr, t.r1, t.r2, t.kbuf, State.ext rfl rfl rfl rfl hkrem.symm hphase.symm hicnt.symm
      herr.symm hdin.symm hdout.symm hkey.symm hiv.symm hbase.symm hprogram.symm hschedule.symm hreads.symm⟩
  · obtain ⟨⟨hlfsr, hr1, hr2⟩, hkbuf⟩ := hhidden hp
    left
    ext1
    all_goals assumption

/-! ## The operations in UNKEYED -/

section
variable {s : State} (hp : s.phase = .unkeyed) (l : Vector Word 16) (a b c : Word)
include hp

theorem tick_withHidden : SameButHidden (tick s) (tick (withHidden s l a b c)) := by
  have hidle : s.phase ≠ .init := by simp [hp]
  rw [tick_outside_init hidle, tick_outside_init (s := withHidden s l a b c) hidle]
  exact sameButHidden_withHidden hp l a b c

/-- A command whose effect keeps states related answers related outcomes. -/
theorem command_withHidden {f : State → State} (hf : SameButHidden (f s) (f (withHidden s l a b c))) :
    SameOutcome (command s f) (command (withHidden s l a b c) f) := by
  have hidle : s.phase ≠ .init := by simp [hp]
  rw [command_idle hidle, command_idle (s := withHidden s l a b c) hidle]
  exact hf

theorem testAccess_withHidden (f : Word → Word) :
    SameOutcome (command s fun s => testAccess s f) (command (withHidden s l a b c) fun s => testAccess s f) :=
  command_withHidden hp l a b c (sameButHidden_withHidden (s := testAccess s f) hp l a b c)

/-- No command looks at hidden state before the first SETUP: the keystream commands are rejected, and an accepted
SETUP overwrites it. -/
theorem exec_withHidden (i : Instr) : SameOutcome (exec i s) (exec i (withHidden s l a b c)) := by
  cases i with
  | nop => exact command_withHidden hp l a b c (sameButHidden_withHidden (s := s.accept) hp l a b c)
  | mula => exact testAccess_withHidden hp l a b c mulAlpha
  | mulai => exact testAccess_withHidden hp l a b c mulAlphaInv
  | sbox => exact testAccess_withHidden hp l a b c sfsm
  | setup klen ivlen =>
    rw [exec, exec, execSetup, execSetup]
    refine command_withHidden hp l a b c ?_
    split_ifs
    · exact sameButHidden_withHidden (s := s.reject .keySize) hp l a b c
    · exact sameButHidden_withHidden (s := s.reject .ivSize) hp l a b c
    · exact sameButHidden_refl (load klen s).accept
  | xorb =>
    rw [exec_xorb_unkeyed hp, exec_xorb_unkeyed (s := withHidden s l a b c) hp]
    exact sameButHidden_withHidden (s := s.reject .notReady) hp l a b c
  | xorw =>
    rw [exec_xorw_unkeyed hp, exec_xorw_unkeyed (s := withHidden s l a b c) hp]
    exact sameButHidden_withHidden (s := s.reject .notReady) hp l a b c

theorem dispatch_withHidden (w : Word) : SameOutcome (dispatch w s) (dispatch w (withHidden s l a b c)) := by
  have hidle : s.phase ≠ .init := by simp [hp]
  cases hd : decode w with
  | ok i =>
    rw [dispatch_ok hd, dispatch_ok hd]
    exact exec_withHidden hp l a b c i
  | error e =>
    rw [dispatch_illegal hidle hd, dispatch_illegal (s := withHidden s l a b c) hidle hd]
    exact sameButHidden_withHidden (s := s.reject .illegal) hp l a b c

theorem busWrite_withHidden (r : Reg) (v : Word) :
    SameOutcome (busWrite r v s) (busWrite r v (withHidden s l a b c)) := by
  cases r with
  | cmd => exact dispatch_withHidden hp l a b c v
  | status => exact sameButHidden_withHidden hp l a b c
  | din => exact sameButHidden_withHidden (s := s.writeReg v .din) hp l a b c
  | dout => exact sameButHidden_withHidden hp l a b c
  | key i => exact sameButHidden_withHidden (s := s.writeReg v (.key i)) hp l a b c
  | iv j => exact sameButHidden_withHidden (s := s.writeReg v (.iv j)) hp l a b c

theorem busRead_withHidden (r : Reg) : SameButHidden (busRead r s) (busRead r (withHidden s l a b c)) := by
  have hread : busRead r (withHidden s l a b c) = withHidden (busRead r s) l a b c := by cases r <;> rfl
  rw [hread]
  exact sameButHidden_withHidden (s := busRead r s) hp l a b c

theorem pollReady_withHidden (rest : List HostOp) :
    SameButHidden (pollReady rest s) (pollReady rest (withHidden s l a b c)) := by
  have hstatus : (withHidden s l a b c).status = s.status := rfl
  unfold pollReady
  rw [hstatus]
  split
  · exact busRead_withHidden hp l a b c .status
  · exact sameButHidden_withHidden (s := { busRead .status s with program := rest }) hp l a b c

/-- The host's operations: the register an access reaches depends on BASE only. -/
theorem hostStep_withHidden : SameOutcome (hostStep s) (hostStep (withHidden s l a b c)) := by
  have hresolve : ∀ size addr, (withHidden s l a b c).resolve size addr = s.resolve size addr := fun _ _ => rfl
  have hprogram : (withHidden s l a b c).program = s.program := rfl
  unfold hostStep
  simp only [hresolve, hprogram]
  split
  · exact sameButHidden_withHidden hp l a b c
  · exact pollReady_withHidden hp l a b c _
  next size addr rest _ =>
    split
    · rfl
    · exact busRead_withHidden (s := { s with program := rest }) hp l a b c _
  next size addr v rest _ =>
    split
    · rfl
    · exact busWrite_withHidden (s := { s with program := rest }) hp l a b c _ v

theorem unscheduled_withHidden : SameOutcome (unscheduled s) (unscheduled (withHidden s l a b c)) := by
  have hprogram : (withHidden s l a b c).program = s.program := rfl
  have hbusy : (withHidden s l a b c).busy = s.busy := rfl
  unfold unscheduled
  rw [hprogram, hbusy]
  split
  · split
    · exact tick_withHidden hp l a b c
    · exact hostStep_withHidden hp l a b c
  · exact hostStep_withHidden hp l a b c

theorem step_withHidden : SameOutcome (step s) (step (withHidden s l a b c)) := by
  have hschedule : (withHidden s l a b c).schedule = s.schedule := rfl
  unfold step advance
  rw [hschedule]
  split
  · exact unscheduled_withHidden hp l a b c
  next rest _ => exact hostStep_withHidden (s := { s with schedule := rest }) hp l a b c
  next rest _ => exact tick_withHidden (s := { s with schedule := rest }) hp l a b c
  next rest _ => exact sameButHidden_refl (State.resetBlock { s with schedule := rest })
  · rfl

end

/-! ## Runs -/

theorem step_sameOutcome {s t : State} (h : SameButHidden s t) : SameOutcome (step s) (step t) := by
  obtain rfl | ⟨hp, l, a, b, c, rfl⟩ := eq_or_eq_withHidden h
  · exact sameOutcome_refl (step s)
  · exact step_withHidden hp l a b c

/-- Settles O57, by induction on the number of steps. -/
theorem hiddenStateIsUnobservable : Obligations.HiddenStateIsUnobservable := by
  unfold Obligations.HiddenStateIsUnobservable
  intro s t n h
  induction n generalizing s t with
  | zero => exact h
  | succ n ih =>
    have hstep := step_sameOutcome h
    rw [State.run, State.run]
    cases hs : step s <;> cases ht : step t <;> rw [hs, ht] at hstep
    case next.next s' t' => exact ih s' t' hstep
    case fault.fault => exact hstep
    case refused.refused => exact hstep
    all_goals exact hstep.elim

/-- Settles O60: the table of R41 gives STATUS 0, and the reset block is UNKEYED, so O57 applies to it. -/
theorem resetObservations : Obligations.ResetObservations := by
  unfold Obligations.ResetObservations
  have hstatus : State.reset.status = 0x00000000 := by decide
  exact ⟨hstatus, fun s v a b c n =>
    hiddenStateIsUnobservable s.resetBlock (withHidden s.resetBlock v a b c) n (sameButHidden_withHidden rfl v a b c)⟩

end Sys2Proof
end

section
/-! SUPPORT AND PROOFS. The field arithmetic (spec/40_field_arith.md): the constants of R100 and R101, the multipliers
as field products (R102, R105) and their laws (R106); and the combined tables of the FSM substitution
(spec/41_sbox.md R125). -/

namespace Sys2Proof
open Machine

/-! ## Products of bytes (R100, R101) -/

set_option maxRecDepth 20000 in
/-- Settles O26: powers of beta and one product of words, by evaluation; only the depth of the 255 steps asks for the
option. -/
theorem alphaConstants : Obligations.AlphaConstants := by
  unfold Obligations.AlphaConstants
  decide

theorem mulByte_xor_left (a a' b : Byte) : mulByte (a ^^^ a') b = mulByte a b ^^^ mulByte a' b :=
  gmul8_xor_left a a' b Config.polyA

theorem mulByte_xor_right (a b b' : Byte) : mulByte a (b ^^^ b') = mulByte a b ^^^ mulByte a b' :=
  gmul8_xor_right a b b' Config.polyA

theorem mulByte_zero_left (b : Byte) : mulByte 0#8 b = 0#8 := gmul8_zero_left b Config.polyA

theorem mulByte_one_left (b : Byte) : mulByte 1#8 b = b :=
  eq_of_xor_of_twoPow (f := mulByte 1#8) (g := id) (mulByte_xor_right 1#8) (fun _ _ => rfl) (by decide) b

/-- The byte product is commutative: it is additive in both factors, and commutes on powers of x. -/
theorem mulByte_comm (a b : Byte) : mulByte a b = mulByte b a := by
  have hbasis : ∀ i < 8, ∀ j < 8, mulByte (.twoPow 8 i) (.twoPow 8 j) = mulByte (.twoPow 8 j) (.twoPow 8 i) := by
    decide
  have hleft : ∀ j < 8, mulByte a (.twoPow 8 j) = mulByte (.twoPow 8 j) a := fun j hj =>
    eq_of_xor_of_twoPow (f := fun a => mulByte a (.twoPow 8 j)) (fun _ _ => mulByte_xor_left _ _ _)
      (mulByte_xor_right _) (fun i hi => hbasis i hi j hj) a
  exact eq_of_xor_of_twoPow (g := fun b => mulByte b a) (mulByte_xor_right a) (fun _ _ => mulByte_xor_left _ _ a) hleft b

/-- A byte times two constants in turn is the byte times their product: additive in the byte, so eight bytes decide. -/
theorem mulByte_mulByte {a b c : Byte}
    (h : ∀ i < 8, mulByte (mulByte a (.twoPow 8 i)) b = mulByte c (.twoPow 8 i)) (x : Byte) :
    mulByte (mulByte a x) b = mulByte c x :=
  eq_of_xor_of_twoPow (f := fun x => mulByte (mulByte a x) b)
    (fun _ _ => by rw [mulByte_xor_right, mulByte_xor_left]) (mulByte_xor_right c) h x

/-! ## The product of GF(2^32) (R101) -/

theorem byteOf_alpha : byteOf 3 alpha = 0#8 ∧ byteOf 2 alpha = 0#8 ∧ byteOf 1 alpha = 1#8 ∧ byteOf 0 alpha = 0#8 := by
  decide

theorem byteOf_alphaInv : byteOf 3 alphaInv = 0x18#8 ∧ byteOf 2 alphaInv = 0x0F#8 ∧ byteOf 1 alphaInv = 0x40#8 ∧
    byteOf 0 alphaInv = 0xCD#8 := by
  decide

theorem coeff_eq (u v : Word) :
    coeff u v 0 = mulByte (byteOf 0 u) (byteOf 0 v) ∧
    coeff u v 1 = mulByte (byteOf 0 u) (byteOf 1 v) ^^^ mulByte (byteOf 1 u) (byteOf 0 v) ∧
    coeff u v 2 = mulByte (byteOf 0 u) (byteOf 2 v) ^^^ mulByte (byteOf 1 u) (byteOf 1 v) ^^^
      mulByte (byteOf 2 u) (byteOf 0 v) ∧
    coeff u v 3 = mulByte (byteOf 0 u) (byteOf 3 v) ^^^ mulByte (byteOf 1 u) (byteOf 2 v) ^^^
      mulByte (byteOf 2 u) (byteOf 1 v) ^^^ mulByte (byteOf 3 u) (byteOf 0 v) ∧
    coeff u v 4 = mulByte (byteOf 1 u) (byteOf 3 v) ^^^ mulByte (byteOf 2 u) (byteOf 2 v) ^^^
      mulByte (byteOf 3 u) (byteOf 1 v) ∧
    coeff u v 5 = mulByte (byteOf 2 u) (byteOf 3 v) ^^^ mulByte (byteOf 3 u) (byteOf 2 v) ∧
    coeff u v 6 = mulByte (byteOf 3 u) (byteOf 3 v) := by
  simp [coeff, List.range_succ]

/-- The tables' formulas (R103, R104) with the constant as the first factor. -/
theorem mulA_eq (c : Byte) :
    mulA c = be32 (mulByte c 0xE1#8) (mulByte c 0x9F#8) (mulByte c 0xCF#8) (mulByte c 0x13#8) :=
  mulA_formula c

theorem mulAI_eq (c : Byte) :
    mulAI c = be32 (mulByte 0x18#8 c) (mulByte 0x0F#8 c) (mulByte 0x40#8 c) (mulByte 0xCD#8 c) := by
  simp only [mulByte_comm _ c]
  exact mulAI_formula c

/-! ## Words shifted by a byte -/

theorem byteOf_shiftLeft_eight (w : Word) {k : Nat} (hk : k < 3) : byteOf (k + 1) (w <<< 8) = byteOf k w := by
  ext i hi
  simp [byteOf]
  grind

theorem byteOf_ushiftRight_eight (w : Word) (k : Nat) : byteOf k (w >>> 8) = byteOf (k + 1) w := by
  ext i hi
  simp [byteOf]
  grind

theorem shiftLeft_eight_eq (w : Word) : w <<< 8 = be32 (byteOf 2 w) (byteOf 1 w) (byteOf 0 w) 0#8 := by
  have hlow : byteOf 0 (w <<< 8) = 0#8 := by
    ext i hi
    simp [byteOf]
    omega
  rw [← be32_byteOf (w <<< 8), hlow, byteOf_shiftLeft_eight w (k := 2) (by decide),
    byteOf_shiftLeft_eight w (k := 1) (by decide), byteOf_shiftLeft_eight w (k := 0) (by decide)]

theorem ushiftRight_eight_eq (w : Word) : w >>> 8 = be32 0#8 (byteOf 3 w) (byteOf 2 w) (byteOf 1 w) := by
  have hhigh : byteOf 3 (w >>> 8) = 0#8 := by
    ext i hi
    simp [byteOf]
    grind
  rw [← be32_byteOf (w >>> 8), hhigh, byteOf_ushiftRight_eight, byteOf_ushiftRight_eight, byteOf_ushiftRight_eight]

/-! ## The multipliers are products (R102, R105) -/

/-- alpha·w moves every coefficient up by one, and y^4 is replaced in the top one. -/
theorem gf32Mul_alpha (w : Word) : gf32Mul alpha w = mulAlpha w := by
  obtain ⟨h3, h2, h1, h0⟩ := byteOf_alpha
  obtain ⟨c0, c1, c2, c3, c4, c5, c6⟩ := coeff_eq alpha w
  rw [mulAlpha, shiftLeft_eight_eq, mulA_eq, ← be32_xor]
  simp only [gf32Mul, c0, c1, c2, c3, c4, c5, c6, h3, h2, h1, h0, alpha4, BitVec.ofNat_eq_ofNat,
    mulByte_zero_left, mulByte_one_left, BitVec.xor_zero, BitVec.zero_xor]

/-- The coefficient bytes of alpha^-1, times the top one of them, are those of alpha^4, so that
alpha^-1·alpha = 1: 0x18·0xE1 = 0x0F, 0x18·0x9F = 0x40, 0x18·0xCF = 0xCD and 0x18·0x13 = 1 (R101). -/
theorem mulByte_alphaInv_alpha4 (b : Byte) :
    mulByte (mulByte 0x18#8 b) 0xE1#8 = mulByte 0x0F#8 b ∧ mulByte (mulByte 0x18#8 b) 0x9F#8 = mulByte 0x40#8 b ∧
    mulByte (mulByte 0x18#8 b) 0xCF#8 = mulByte 0xCD#8 b ∧ mulByte (mulByte 0x18#8 b) 0x13#8 = b := by
  refine ⟨mulByte_mulByte (by decide) b, mulByte_mulByte (by decide) b, mulByte_mulByte (by decide) b, ?_⟩
  rw [mulByte_mulByte (c := 1#8) (by decide), mulByte_one_left]

/-- alpha^-1·w: every replaced power of y takes its own lower coefficients out of the sum again. -/
theorem gf32Mul_alphaInv (w : Word) : gf32Mul alphaInv w = mulAlphaInv w := by
  have h (k : Nat) := mulByte_alphaInv_alpha4 (byteOf k w)
  obtain ⟨a3, a2, a1, a0⟩ := byteOf_alphaInv
  obtain ⟨c0, c1, c2, c3, c4, c5, c6⟩ := coeff_eq alphaInv w
  simp only [a3, a2, a1, a0] at c0 c1 c2 c3 c4 c5 c6
  have y5 : coeff alphaInv w 5 ^^^ mulByte (coeff alphaInv w 6) 0xE1#8 = mulByte 0x18#8 (byteOf 2 w) := by
    rw [c5, c6, (h 3).1]
    grind
  have y4 : coeff alphaInv w 4 ^^^ mulByte (coeff alphaInv w 6) 0x9F#8 ^^^
      mulByte (mulByte 0x18#8 (byteOf 2 w)) 0xE1#8 = mulByte 0x18#8 (byteOf 1 w) := by
    rw [c4, c6, (h 3).2.1, (h 2).1]
    grind
  rw [mulAlphaInv, ushiftRight_eight_eq, mulAI_eq, ← be32_xor]
  simp only [gf32Mul, alpha4, BitVec.ofNat_eq_ofNat, y5, y4]
  simp only [c0, c1, c2, c3, c6, h]
  congr 1 <;> grind

/-- Settles O27: `gf32Mul_alpha` and `gf32Mul_alphaInv`. -/
theorem multipliersAreFieldProducts : Obligations.MultipliersAreFieldProducts := by
  unfold Obligations.MultipliersAreFieldProducts
  exact fun w => ⟨(gf32Mul_alpha w).symm, (gf32Mul_alphaInv w).symm⟩

/-! ## The laws of the multipliers (R106) -/

theorem mulAlpha_bijective : Function.Bijective mulAlpha := Finite.injective_iff_bijective.mp mulAlpha_injective

/-- MulAlpha undoes MulAlphaInv: it is onto, and MulAlphaInv undoes it. -/
theorem mulAlpha_mulAlphaInv (w : Word) : mulAlpha (mulAlphaInv w) = w :=
  Function.LeftInverse.rightInverse_of_surjective mulAlphaInv_mulAlpha mulAlpha_bijective.surjective w

theorem mulAlphaInv_bijective : Function.Bijective mulAlphaInv :=
  Function.bijective_iff_has_inverse.mpr ⟨mulAlpha, mulAlpha_mulAlphaInv, mulAlphaInv_mulAlpha⟩

/-- With 0 in the byte that leaves the word, the table adds nothing. -/
theorem mulAlpha_of_byte_zero {w : Word} (h : byteOf 3 w = 0) : mulAlpha w = w <<< 8 := by
  have htable : mulA 0#8 = 0#32 := by decide
  simp [mulAlpha, h, htable]

theorem mulAlphaInv_of_byte_zero {w : Word} (h : byteOf 0 w = 0) : mulAlphaInv w = w >>> 8 := by
  have htable : mulAI 0#8 = 0#32 := by decide
  simp [mulAlphaInv, h, htable]

/-- A word with 0 in its lower three bytes is shifted out, so only the table is left. -/
theorem mulAlpha_top_byte (c : Byte) : mulAlpha (c.setWidth 32 <<< 24) = mulA c := by
  have hbyte : byteOf 3 (c.setWidth 32 <<< 24) = c := by
    ext i hi
    simp [byteOf]
    grind
  have hshift : (c.setWidth 32 <<< 24 : Word) <<< 8 = 0#32 := by
    ext i hi
    simp
  rw [mulAlpha, hbyte, hshift, BitVec.zero_xor]

theorem mulAlphaInv_bottom_byte (c : Byte) : mulAlphaInv (c.setWidth 32) = mulAI c := by
  have hbyte : byteOf 0 (c.setWidth 32) = c := by
    ext i hi
    simp [byteOf]
    grind
  have hshift : (c.setWidth 32 : Word) >>> 8 = 0#32 := zext32_ushiftRight_eight c
  rw [mulAlphaInv, hbyte, hshift, BitVec.zero_xor]

/-- Settles O28: the laws are the lemmas above, with additivity and the inverse from MULA and MULAI. -/
theorem multiplierLaws : Obligations.MultiplierLaws := by
  unfold Obligations.MultiplierLaws
  exact ⟨fun w => ⟨mulAlphaInv_mulAlpha w, mulAlpha_mulAlphaInv w⟩, mulAlpha_bijective, mulAlphaInv_bijective,
    mulAlpha_xor, mulAlphaInv_xor, mulAlpha_zero, mulAlphaInv_zero,
    fun c => ⟨(mulAlpha_top_byte c).symm, (mulAlphaInv_bottom_byte c).symm⟩,
    fun _ => mulAlpha_of_byte_zero, fun _ => mulAlphaInv_of_byte_zero⟩

/-! ## The combined tables (R125) -/

/-- Settles O29: each lane of the column mix is the sum of that lane of the four tables. -/
theorem substitutionByCombinedTables : Obligations.SubstitutionByCombinedTables := by
  unfold Obligations.SubstitutionByCombinedTables
  refine ⟨fun w => ?_, fun a => ⟨rfl, rfl, rfl, rfl⟩, by decide, by decide⟩
  simp only [sfsm, mixColumn, tTable0, tTable1, tTable2, tTable3, ← be32_xor]

end Sys2Proof
end

section
/-! SUPPORT AND PROOFS. The keystream (spec/42_state_machine.md R141 to R147, spec/44_stream.md R191): the reading that
outputs before it clocks, the byte stream as the word stream, the 32 init clocks and the word of the 33rd, and
that nothing but the key and the IV enters. -/

namespace Sys2Proof
open Machine

/-! ## Words of the keystream -/

/-- Taking words is clocking in KSMODE (R145). -/
theorem dropWords_eq_clocks (s : State) (n : Nat) : s.dropWords n = (clockCore .ksMode)^[n] s := rfl

/-- Settles O32: the clock of `ksWordAt` is the last of n + 1 on one side and the first on the other. -/
theorem outputBeforeClockReading : Obligations.OutputBeforeClockReading := by
  unfold Obligations.OutputBeforeClockReading
  intro s n
  calc s.ksWordAt n = (clockCore .ksMode ((clockCore .ksMode)^[n] s)).keyWord := rfl
    _ = ((clockCore .ksMode)^[n] (clockCore .ksMode s)).keyWord := by
      rw [← Function.iterate_succ_apply' (clockCore .ksMode), Function.iterate_succ_apply]

/-! ## Bytes of the keystream (R191) -/

/-- Byte `r` of the next word, at a word boundary. -/
theorem ksByteAt_of_aligned {s : State} (hk : s.krem = 0) {r : Nat} (hr : r < 4) :
    s.ksByteAt r = byteOf (3 - r) (ksWord s).1 := by
  have hword : be32 (s.ksByteAt 0) (s.ksByteAt 1) (s.ksByteAt 2) (s.ksByteAt 3) = (ksWord s).1 := by
    rw [← nextKsWord_aligned hk, nextKsWord_eq]
  rw [← hword]
  interval_cases r <;> simp

theorem dropBytes_succ_last (s : State) (n : Nat) : s.dropBytes (n + 1) = (nextKsByte (s.dropBytes n)).2 :=
  Function.iterate_succ_apply' ..

/-- KREM after `n` bytes, modulo 4 (R192). -/
theorem dropBytes_krem (s : State) (n : Nat) : (s.dropBytes n).krem = s.krem - BitVec.ofNat 2 n := by
  induction n with
  | zero => simp [State.dropBytes]
  | succ n ih =>
    rw [dropBytes_succ_last, nextKsByte_krem, ih, BitVec.ofNat_add, sub_sub]
    rfl

/-- From a word boundary on, the word boundaries are every four bytes. -/
theorem dropBytes_krem_eq_zero_iff {s : State} (hk : s.krem = 0) (n : Nat) :
    (s.dropBytes n).krem = 0 ↔ n % 4 = 0 := by
  rw [dropBytes_krem, hk, ← BitVec.toNat_inj]
  simp
  omega

/-- The cipher is clocked at bytes 0, 4, 8, … only. -/
theorem sameCipher_dropBytes {s : State} (hk : s.krem = 0) (n : Nat) :
    SameCipher (s.dropBytes n) ((clockCore .ksMode)^[(n + 3) / 4] s) := by
  induction n with
  | zero => exact .refl s
  | succ n ih =>
    rw [dropBytes_succ_last]
    by_cases hn : (s.dropBytes n).krem = 0
    · have hboundary := (dropBytes_krem_eq_zero_iff hk n).mp hn
      have hclocks : (n + 1 + 3) / 4 = (n + 3) / 4 + 1 := by omega
      rw [hclocks, Function.iterate_succ_apply']
      exact (sameCipher_nextKsByte_refill hn).trans (ih.clockCore .ksMode)
    · have hinside : n % 4 ≠ 0 := fun h => hn ((dropBytes_krem_eq_zero_iff hk n).mpr h)
      have hclocks : (n + 1 + 3) / 4 = (n + 3) / 4 := by omega
      rw [hclocks]
      exact (sameCipher_nextKsByte_residual hn).1.trans ih

/-- Settles O35: byte n is byte n mod 4 after the n / 4 whole words before it. -/
theorem byteStreamIsTheWordStream : Obligations.ByteStreamIsTheWordStream := by
  unfold Obligations.ByteStreamIsTheWordStream
  intro s hk n
  refine ⟨?_, sameCipher_dropBytes hk n⟩
  have hboundary : (s.dropBytes (4 * (n / 4))).krem = 0 := (dropBytes_krem_eq_zero_iff hk _).mpr (by omega)
  have hcipher : SameCipher (s.dropBytes (4 * (n / 4))) (s.dropWords (n / 4)) := by
    have hclocks : (4 * (n / 4) + 3) / 4 = n / 4 := by omega
    rw [dropWords_eq_clocks]
    simpa only [hclocks] using sameCipher_dropBytes hk (4 * (n / 4))
  calc s.ksByteAt n = s.ksByteAt (4 * (n / 4) + n % 4) := by rw [Nat.div_add_mod]
    _ = byteOf (3 - n % 4) (ksWord (s.dropBytes (4 * (n / 4)))).1 := by
      rw [ksByteAt_add, ksByteAt_of_aligned hboundary (Nat.mod_lt n (by decide))]
    _ = byteOf (3 - n % 4) (s.ksWordAt (n / 4)) := congrArg _ (hcipher.ksWordAt 0)

/-! ## After SETUP (R170, R171) -/

theorem clocks_frame (m : ClockMode) (s : State) (n : Nat) :
    (clockCore m)^[n] s = { s with
      lfsr := ((clockCore m)^[n] s).lfsr, r1 := ((clockCore m)^[n] s).r1, r2 := ((clockCore m)^[n] s).r2 } := by
  induction n with
  | zero => rfl
  | succ n ih =>
    rw [Function.iterate_succ_apply', ih]
    rfl

theorem clocks_kbuf (m : ClockMode) (s : State) (n : Nat) : ((clockCore m)^[n] s).kbuf = s.kbuf := by
  rw [clocks_frame]

theorem clocks_krem (m : ClockMode) (s : State) (n : Nat) : ((clockCore m)^[n] s).krem = s.krem := by
  rw [clocks_frame]

theorem clocks_din (m : ClockMode) (s : State) (n : Nat) : ((clockCore m)^[n] s).din = s.din := by
  rw [clocks_frame]

/-- The state the 32 TICKs after an accepted SETUP lead to. -/
theorem tick_32_of_loaded {t : State} (hp : t.phase = .init) (hi : t.icnt = 0) :
    tick^[32] t = { (clockCore .initMode)^[32] t with icnt := 32, phase := .ready } :=
  tick_iterate_of_loaded hp hi le_rfl

/-- At a word boundary XORW returns DIN XOR the word of the next clock (R194). -/
theorem exec_xorw_aligned {s : State} (hp : s.phase = .ready) (hk : s.krem = 0) :
    ∃ u, exec .xorw s = .next u ∧ u.dout = s.din ^^^ (clockCore .ksMode s).keyWord :=
  ⟨_, exec_xorw_ready hp, by rw [nextKsWord_aligned hk]; rfl⟩

/-- Settles O34: the 32 TICKs are `tick_iterate_of_loaded`, and then XORW takes the word of the next clock. -/
theorem initTakesThirtyTwoTicks : Obligations.InitTakesThirtyTwoTicks := by
  unfold Obligations.InitTakesThirtyTwoTicks
  rintro s t klen hp ⟨hk, -⟩ h
  obtain rfl := Host.Outcome.next.inj ((execSetup_accepted hp hk).symm.trans h)
  have hready := tick_32_of_loaded (t := (load klen s).accept) rfl rfl
  have hcipher : SameCipher (tick^[32] (load klen s).accept) ((clockCore .initMode)^[32] (load klen s).accept) := by
    rw [hready]
    exact ⟨rfl, rfl, rfl⟩
  have hphase : (tick^[32] (load klen s).accept).phase = .ready := by rw [hready]
  have hkrem : (tick^[32] (load klen s).accept).krem = 0 := by
    simp only [hready, clocks_krem, accept_krem, load_krem]
  have hdin : (tick^[32] (load klen s).accept).din = s.din := by
    simp only [hready, clocks_din, accept_din, load_din]
  refine ⟨fun n hn => ?_, hphase, by rw [hready], hkrem, hcipher, ?_⟩
  · have hne : n ≠ 32 := hn.ne
    rw [tick_iterate_of_loaded rfl rfl hn.le]
    exact ⟨by simp [hne], rfl, rfl, rfl, rfl⟩
  · rw [← (hcipher.clockCore .ksMode).keyWord, ← hdin]
    exact exec_xorw_aligned hphase hkrem

/-! ## The key and the IV alone (R147, R163) -/

/-- The load reads IV and the key words its length names: KEY[0..3], and KEY[4..7] too for 32 bytes. -/
theorem load_lfsr_congr {s t : State} {klen : Nat} (hk : klen = 16 ∨ klen = 32)
    (hkey : ∀ i : Fin 8, i.val < 4 ∨ klen = 32 → s.key[i] = t.key[i]) (hiv : s.iv = t.iv) :
    (load klen s).lfsr = (load klen t).lfsr := by
  have hlow (i : Nat) (h : i < 4) : s.key[i] = t.key[i] := hkey ⟨i, by omega⟩ (.inl h)
  obtain rfl | rfl := hk
  · rw [load_lfsr_128, load_lfsr_128, hiv, hlow 0 (by decide), hlow 1 (by decide), hlow 2 (by decide),
      hlow 3 (by decide)]
  · have hall : s.key = t.key := Vector.ext fun i h => hkey ⟨i, h⟩ (.inr rfl)
    rw [load_lfsr_256, load_lfsr_256, hiv, hall]

/-- Two accepted SETUPs that load the same LFSR reach the same keystream position after the 32 TICKs. -/
theorem sameStream_tick_32_of_load {s t : State} {klen : Nat} (hl : (load klen s).lfsr = (load klen t).lfsr) :
    SameStream (tick^[32] (load klen s).accept) (tick^[32] (load klen t).accept) := by
  have hload : SameCipher (load klen s).accept (load klen t).accept := by
    simpa [SameCipher] using hl
  have hs := tick_32_of_loaded (t := (load klen s).accept) rfl rfl
  have ht := tick_32_of_loaded (t := (load klen t).accept) rfl rfl
  obtain ⟨hlfsr, hr1, hr2⟩ := hload.clocks .initMode 32
  rw [hs, ht]
  refine ⟨⟨hlfsr, hr1, hr2⟩, ?_, ?_⟩
  · simp only [clocks_kbuf, accept_kbuf, load_kbuf]
  · simp only [clocks_krem, accept_krem, load_krem]

/-- Settles O39: the load reads nothing else, and the keystream words are those of the cipher state. -/
theorem keystreamDependsOnKeyAndIvAlone : Obligations.KeystreamDependsOnKeyAndIvAlone := by
  unfold Obligations.KeystreamDependsOnKeyAndIvAlone
  rintro s t s1 t1 klen hps hpt ⟨hk, -⟩ hkey hiv hs ht
  obtain rfl := Host.Outcome.next.inj ((execSetup_accepted hps hk).symm.trans hs)
  obtain rfl := Host.Outcome.next.inj ((execSetup_accepted hpt hk).symm.trans ht)
  have hstream := sameStream_tick_32_of_load (load_lfsr_congr hk hkey hiv)
  exact ⟨hstream, hstream.1.ksWordAt⟩

end Sys2Proof
end

section
/-! SUPPORT AND PROOFS. Data fed through the stream adapter (spec/44_stream.md R192 to R197): XORW as four XORBs, any
split of the data into transactions, and decryption by a second block. -/

namespace Sys2Proof
open Machine

/-! ## XORB and XORW at a position of the stream -/

theorem nextKsByte_dropBytes (s : State) (n : Nat) :
    nextKsByte (s.dropBytes n) = (s.ksByteAt n, s.dropBytes (n + 1)) := by
  rw [dropBytes_succ_last]
  rfl

/-- The byte source neither reads nor writes DIN, DOUT and ERR. -/
theorem nextKsByte_set_io (s : State) (d o : Word) (e : Err) :
    nextKsByte { s with din := d, dout := o, err := e } =
      ((nextKsByte s).1, { (nextKsByte s).2 with din := d, dout := o, err := e }) := by
  by_cases h : s.krem = 0
  · rw [nextKsByte_refill h, nextKsByte_refill (s := { s with din := d, dout := o, err := e }) h]
    rfl
  · rw [nextKsByte_residual h, nextKsByte_residual (s := { s with din := d, dout := o, err := e }) h]

theorem byteOf_zero_zext32 (b : Byte) : byteOf 0 (zext32 b) = b := by
  ext i hi
  simp [byteOf, zext32]
  grind

/-- The position in the stream does not involve DIN, DOUT and ERR. -/
theorem sameStream_set_io (s : State) (d o : Word) (e : Err) :
    SameStream { s with din := d, dout := o, err := e } s :=
  ⟨⟨rfl, rfl, rfl⟩, rfl, rfl⟩

/-- XORB with data byte `b` at position `n` of the stream of `s`, whatever DOUT and ERR hold. -/
theorem exec_xorb_dropBytes {s : State} (hp : s.phase = .ready) (n : Nat) (b : Byte) (o : Word) (e : Err) :
    exec .xorb { s.dropBytes n with din := zext32 b, dout := o, err := e } = .next
      { s.dropBytes (n + 1) with din := zext32 b, dout := zext32 (b ^^^ s.ksByteAt n), err := .ok } := by
  have hready : (s.dropBytes n).phase = .ready := (dropBytes_phase s n).trans hp
  rw [exec_xorb_ready (s := { s.dropBytes n with din := zext32 b, dout := o, err := e }) hready,
    nextKsByte_set_io, nextKsByte_dropBytes, byteOf_zero_zext32]

theorem dropBytes_set_din (s : State) (d : Word) (n : Nat) :
    ({ s with din := d } : State).dropBytes n = { s.dropBytes n with din := d } := by
  induction n with
  | zero => rfl
  | succ n ih => rw [dropBytes_succ_last, ih, nextKsByte_set_din, ← dropBytes_succ_last]

/-- XORW with data word `d` takes the four bytes at the position of `s`. -/
theorem exec_xorw_dropBytes {s : State} (hp : s.phase = .ready) (d : Word) :
    exec .xorw { s with din := d } = .next
      { s.dropBytes 4 with
        din := d, dout := d ^^^ be32 (s.ksByteAt 0) (s.ksByteAt 1) (s.ksByteAt 2) (s.ksByteAt 3), err := .ok } := by
  have hsame : SameStream { s with din := d } s := .refl s
  rw [exec, execXorw_ready (s := { s with din := d }) hp, nextKsWord_eq, dropBytes_set_din]
  simp only [hsame.ksByteAt]
  rfl

/-- Settles O59: the four XORBs stand at positions 0 to 3 of the stream, and XORW takes all four. -/
theorem xorwIsFourXorbs : Obligations.XorwIsFourXorbs := by
  unfold Obligations.XorwIsFourXorbs
  intro s hp
  refine ⟨_, _, _, _, _, exec_xorw_dropBytes hp s.din, exec_xorb_dropBytes hp 0 _ s.dout s.err,
    exec_xorb_dropBytes hp 1 _ _ _, exec_xorb_dropBytes hp 2 _ _ _, exec_xorb_dropBytes hp 3 _ _ _, ?_, ?_⟩
  · simp only [byteOf_zero_zext32, be32_xor, be32_byteOf]
  · simp only [Nat.reduceAdd]

/-! ## Transactions (R197) -/

/-- The bytes of `data` XOR the bytes of the stream of `s`, in order. -/
def xorStream (s : State) (data : List Byte) : List Byte := data.mapIdx fun n d => d ^^^ s.ksByteAt n

theorem xorStream_congr {s t : State} (h : SameStream s t) (data : List Byte) :
    xorStream s data = xorStream t data := by
  simp only [xorStream, h.ksByteAt]

/-- The stream goes on where the first data end. -/
theorem xorStream_append (s : State) (data more : List Byte) :
    xorStream s (data ++ more) = xorStream s data ++ xorStream (s.dropBytes data.length) more := by
  simp only [xorStream, List.mapIdx_append, ← ksByteAt_add, Nat.add_comm]

theorem xorStream_xorStream (s : State) (data : List Byte) : xorStream s (xorStream s data) = data := by
  apply List.ext_getElem
  · simp [xorStream]
  · intro n _ _
    simp [xorStream]

/-- What a transaction leaves of the stream when it takes `n` bytes of it. -/
def StreamAdvances (s t : State) (n : Nat) : Prop := t.phase = .ready ∧ SameStream t (s.dropBytes n)

theorem StreamAdvances.trans {s t u : State} {m n : Nat} (h : StreamAdvances s t m) (h' : StreamAdvances t u n) :
    StreamAdvances s u (m + n) := by
  refine ⟨h'.1, ?_⟩
  rw [dropBytes_add]
  exact h'.2.trans (h.2.dropBytes n)

theorem chunk_run_byte {s : State} (hp : s.phase = .ready) (d : Byte) :
    (Chunk.byte d).run s = some ([d ^^^ s.ksByteAt 0],
      { s.dropBytes 1 with din := zext32 d, dout := zext32 (d ^^^ s.ksByteAt 0), err := .ok }) := by
  have hexec : exec .xorb { s with din := zext32 d } = _ := exec_xorb_dropBytes hp 0 d s.dout s.err
  simp only [Chunk.run, hexec, byteOf_zero_zext32]

theorem chunk_run_word {s : State} (hp : s.phase = .ready) (d3 d2 d1 d0 : Byte) :
    (Chunk.word d3 d2 d1 d0).run s = some
      ([d3 ^^^ s.ksByteAt 0, d2 ^^^ s.ksByteAt 1, d1 ^^^ s.ksByteAt 2, d0 ^^^ s.ksByteAt 3],
        { s.dropBytes 4 with
          din := be32 d3 d2 d1 d0
          dout := be32 d3 d2 d1 d0 ^^^ be32 (s.ksByteAt 0) (s.ksByteAt 1) (s.ksByteAt 2) (s.ksByteAt 3)
          err := .ok }) := by
  simp only [Chunk.run, exec_xorw_dropBytes hp, byteOf_xor, byteOf_be32_3, byteOf_be32_2, byteOf_be32_1,
    byteOf_be32_0]

/-- One transaction in READY: its result bytes, and the stream after it. -/
theorem chunk_run {s : State} (hp : s.phase = .ready) {c : Chunk} (hc : c.KeepsStream) :
    ∃ t, c.run s = some (xorStream s c.data, t) ∧ StreamAdvances s t c.data.length := by
  cases c with
  | byte d => exact ⟨_, chunk_run_byte hp d, (dropBytes_phase s 1).trans hp, sameStream_set_io ..⟩
  | word d3 d2 d1 d0 =>
    exact ⟨_, chunk_run_word hp d3 d2 d1 d0, (dropBytes_phase s 4).trans hp, sameStream_set_io ..⟩
  | other w din =>
    obtain ⟨t, ht⟩ := exists_dispatch_eq_next w { s with din := din }
    obtain ⟨hstream, hphase, -⟩ := sameSequencer_of_quiet hc ht
    exact ⟨t, by simp only [Chunk.run, ht]; rfl, hphase.trans hp, hstream⟩

/-- Settles O37, by induction on the sequence of transactions. -/
theorem chunkingInvariance : Obligations.ChunkingInvariance := by
  unfold Obligations.ChunkingInvariance
  intro s cs hp hcs
  suffices hfeed : ∃ t, feed cs s = some (xorStream s (feedData cs), t) ∧ StreamAdvances s t (feedData cs).length by
    obtain ⟨t, hfeed, hready, hstream⟩ := hfeed
    exact ⟨_, t, hfeed, rfl, hready, hstream⟩
  induction cs generalizing s with
  | nil => exact ⟨s, rfl, hp, .refl s⟩
  | cons c cs ih =>
    obtain ⟨hc, hcs⟩ := List.forall_mem_cons.mp hcs
    obtain ⟨t, hrun, hadvance⟩ := chunk_run hp hc
    obtain ⟨u, hfeed, hadvance'⟩ := ih t hadvance.1 hcs
    have hdata : feedData (c :: cs) = c.data ++ feedData cs := rfl
    refine ⟨u, ?_, ?_⟩
    · rw [hdata, xorStream_append, ← xorStream_congr hadvance.2]
      simp only [feed, hrun, hfeed]
    · rw [hdata, List.length_append]
      exact hadvance.trans hadvance'

/-- Settles O38: both blocks have the same stream after SETUP, and XOR with it twice is the identity. -/
theorem roundTrip : Obligations.RoundTrip := by
  unfold Obligations.RoundTrip
  rintro s t s1 t1 klen hps hpt ⟨hk, -⟩ hkey hiv hs ht cs cs' hcs hcs'
  obtain ⟨hstream, -⟩ := keystreamDependsOnKeyAndIvAlone s t s1 t1 klen hps hpt ⟨hk, rfl⟩ 
    (fun i _ => by rw [hkey]) hiv hs ht
  obtain ⟨-, hreadys, -⟩ := initTakesThirtyTwoTicks s s1 klen hps ⟨hk, rfl⟩ hs
  obtain ⟨-, hreadyt, -⟩ := initTakesThirtyTwoTicks t t1 klen hpt ⟨hk, rfl⟩ ht
  obtain ⟨out, s2, hfeeds, hout, -⟩ := chunkingInvariance (tick^[32] s1) cs hreadys hcs
  obtain ⟨out', t2, hfeedt, hout', -⟩ := chunkingInvariance (tick^[32] t1) cs' hreadyt hcs'
  refine ⟨out, s2, t2, hfeeds, fun hdata => ?_⟩
  have hback : out' = feedData cs :=
    calc out' = xorStream (tick^[32] t1) out := hdata ▸ hout'
      _ = xorStream (tick^[32] s1) (xorStream (tick^[32] s1) (feedData cs)) := by
        rw [← xorStream_congr hstream, hout]
        rfl
      _ = feedData cs := xorStream_xorStream ..
  rw [hfeedt, hback]

end Sys2Proof
end

section
/-! SUPPORT AND PROOFS. The register window (spec/10_state.md R36, R40), the accesses that have no step
(spec/20_memory.md R64, R72), and that a wait_ready ends (spec/70_reset_and_hazards.md R253, R260). -/

namespace Sys2Proof
open Machine

/-! ## The window (R36) -/

/-- The two maps between registers and offsets are inverse to each other. -/
theorem regAt_eq_some_iff (off : Nat) (r : Reg) : regAt off = some r ↔ r.offset = off := by
  constructor
  · intro h
    unfold regAt at h
    split at h <;> cases h <;> rfl
  · rintro rfl
    exact regAt_offset r

theorem offset_mod_four (r : Reg) : r.offset % 4 = 0 := by
  cases r <;> simp [Reg.offset]

/-- The registers stand at the multiples of 4 below 64. -/
theorem exists_regAt_iff (off : Nat) : (∃ r, regAt off = some r) ↔ off < 64 ∧ off % 4 = 0 := by
  constructor
  · rintro ⟨r, hr⟩
    obtain rfl := (regAt_eq_some_iff off r).mp hr
    exact ⟨offset_lt r, offset_mod_four r⟩
  · rintro ⟨hlt, hmod⟩
    have hall : ∀ k < 16, (regAt (4 * k)).isSome := by decide
    have hoff : 4 * (off / 4) = off := by omega
    exact Option.isSome_iff_exists.mp (hoff ▸ hall (off / 4) (by omega))

/-- Settles O44: the sixteen rows are the branches of `regAt`. -/
theorem windowMap : Obligations.WindowMap := by
  unfold Obligations.WindowMap
  refine ⟨fun off => ?_, exists_regAt_iff, regAt_eq_some_iff⟩
  unfold regAt
  split
  case h_17 => grind
  all_goals rfl

/-- Settles O47: STATUS is a function of its fields, and the other registers read themselves or 0. -/
theorem readsRevealOnlyTheWindow : Obligations.ReadsRevealOnlyTheWindow := by
  unfold Obligations.ReadsRevealOnlyTheWindow
  intro s t r hphase hkrem hicnt herr hdin hdout
  cases r with
  | status => exact status_congr hphase hkrem herr hicnt
  | din => exact hdin
  | dout => exact hdout
  | _ => rfl

/-! ## Accesses without a step (R64, R72) -/

theorem resolve_narrow (s : State) {size : AccessSize} (addr : Nat) (h : size ≠ .word) :
    s.resolve size addr = .error .narrowAccess := if_pos h

theorem resolve_outside {s : State} {addr : Nat} (h : addr < s.base ∨ s.base + 64 ≤ addr) :
    s.resolve .word addr = .error .outsideWindow := if_pos h

theorem resolve_misaligned {s : State} {addr : Nat} (hlo : s.base ≤ addr) (hhi : addr < s.base + 64)
    (h : (addr - s.base) % 4 ≠ 0) : s.resolve .word addr = .error .misalignedAccess := by
  have hinside : ¬ (addr < s.base ∨ s.base + Config.windowBytes ≤ addr) := by
    simp only [Config.windowBytes]
    omega
  have hnone : regAt (addr - s.base) = none :=
    Option.eq_none_iff_forall_ne_some.mpr fun r hr => h ((exists_regAt_iff _).mp ⟨r, hr⟩).2
  rw [State.resolve, if_neg (not_not.mpr rfl), if_neg hinside, hnone]

theorem exists_eq_base_add_offset {s : State} {addr : Nat} (hlo : s.base ≤ addr) (hhi : addr < s.base + 64)
    (h : (addr - s.base) % 4 = 0) : ∃ r : Reg, addr = s.base + r.offset := by
  obtain ⟨r, hr⟩ := (exists_regAt_iff (addr - s.base)).mpr ⟨by omega, h⟩
  have hoff := (regAt_eq_some_iff _ r).mp hr
  exact ⟨r, by omega⟩

theorem exists_busWrite_eq_next (r : Reg) (v : Word) (s : State) : ∃ t, busWrite r v s = .next t := by
  cases r with
  | cmd => exact exists_dispatch_eq_next v s
  | _ => exact ⟨_, rfl⟩

/-- Settles O45: the refusals are those of `State.resolve`, and an access that reaches a register has a step. -/
theorem undefinedAccessesAreRefused : Obligations.UndefinedAccessesAreRefused := by
  unfold Obligations.UndefinedAccessesAreRefused
  intro s size addr v rest turns hs hp
  have hrefused {e : Refusal} (he : s.resolve size addr = .error e) : step s = .refused e :=
    (step_host hs).trans (hostStep_refused (s := { s with schedule := turns }) hp he)
  refine ⟨fun hsize => hrefused (resolve_narrow s addr hsize), ?_, ?_, ?_⟩
  · rintro rfl hout
    exact hrefused (resolve_outside hout)
  · rintro rfl hlo hhi hmod
    exact hrefused (resolve_misaligned hlo hhi hmod)
  · rintro rfl hlo hhi hmod
    obtain ⟨r, rfl⟩ := exists_eq_base_add_offset hlo hhi hmod
    obtain hrd | hwr := hp
    · exact ⟨_, step_read hrd hs⟩
    · rw [step_write hwr hs]
      exact exists_busWrite_eq_next r v _

/-- Settles O46: the turn is refused before anything else is looked at. -/
theorem secondHostIsRefused : Obligations.SecondHostIsRefused := by
  unfold Obligations.SecondHostIsRefused
  intro s turns hs
  simp only [step, advance, hs]

/-! ## wait_ready (R253, R260) -/

/-- Bit 0 of STATUS is BUSY (R35). -/
theorem status_getLsbD_zero (s : State) : s.status.getLsbD 0 = s.busy := by
  obtain ⟨hbit, -⟩ := statusLayout s
  have hget : s.status.getLsbD 0 = (s.status.extractLsb' 0 1).getLsbD 0 := by simp
  rw [hget, hbit, ← ofBool_busy]
  simp

theorem hostStep_poll {s : State} {rest : List HostOp} (hprog : s.program = .waitReady :: rest) :
    hostStep s = .next (pollReady rest s) := by
  simp only [hostStep, hprog]

theorem pollReady_busy (rest : List HostOp) {s : State} (hp : s.phase = .init) :
    pollReady rest s = busRead .status s :=
  if_pos ((status_getLsbD_zero s).trans ((busy_iff s).mpr hp))

theorem pollReady_idle (rest : List HostOp) {s : State} (hp : s.phase ≠ .init) :
    pollReady rest s = { busRead .status s with program := rest } :=
  if_neg (by rw [status_getLsbD_zero, busy_iff]; exact hp)

theorem run_succ {s t : State} (h : step s = .next t) (n : Nat) : s.run (n + 1) = t.run n := by
  rw [State.run, h]

theorem step_host_turn {s : State} {turns : List Turn} (h : s.schedule = .host :: turns) :
    step s = hostStep s.spendTurn := by
  simp only [step_host h, State.spendTurn, h, List.tail_cons]

theorem step_core_turn {s : State} {turns : List Turn} (h : s.schedule = .core :: turns) :
    step s = .next (tick s.spendTurn) := by
  simp only [step, advance, State.spendTurn, h, List.tail_cons]

/-- With nothing scheduled the core ticks while the host waits (log 3). -/
theorem step_unscheduled_wait {s : State} {rest : List HostOp} (h : s.schedule = [])
    (hprog : s.program = .waitReady :: rest) (hp : s.phase = .init) : step s = .next (tick s) := by
  simp only [step, advance, h, unscheduled, hprog, (busy_iff s).mpr hp, if_true]

theorem step_unscheduled_poll {s : State} {rest : List HostOp} (h : s.schedule = [])
    (hprog : s.program = .waitReady :: rest) (hp : s.phase ≠ .init) : step s = hostStep s := by
  simp [step, advance, h, unscheduled, hprog, hp]

/-- The host waits for BUSY to clear, with at most `n` TICKs missing. -/
def Waiting (rest : List HostOp) (n : Nat) (s : State) : Prop :=
  s.program = .waitReady :: rest ∧ s.krem = 0 ∧
  ((s.phase = .init ∧ s.icnt.toNat ≤ 31 ∧ 32 - s.icnt.toNat ≤ n) ∨ (s.phase = .ready ∧ s.icnt = 32))

/-- What a wait_ready that began in `s` has left when it ends in `t`. -/
def WaitEnded (rest : List HostOp) (s t : State) : Prop :=
  t.program = rest ∧ t.phase = .ready ∧ t.icnt = 32 ∧ t.krem = 0 ∧ (s.err = .ok → t.status = 0x00200004)

theorem status_of_ready {s : State} (hp : s.phase = .ready) (hi : s.icnt = 32) (hk : s.krem = 0)
    (he : s.err = .ok) : s.status = 0x00200004 :=
  calc s.status = ({ State.reset with phase := .ready, icnt := 32 } : State).status := status_congr hp hk he hi
    _ = 0x00200004 := by decide

/-- The poll that finds BUSY = 0 ends the wait_ready. -/
theorem waiting_poll_ready {rest : List HostOp} {n : Nat} {s : State} (h : Waiting rest n s) (hp : s.phase = .ready) :
    ∃ t, hostStep s = .next t ∧ WaitEnded rest s t ∧ t.reads = s.reads ++ [t.status] := by
  obtain ⟨hprog, hkrem, ⟨hinit, -⟩ | ⟨-, hicnt⟩⟩ := h
  · cases hp.symm.trans hinit
  · rw [hostStep_poll hprog, pollReady_idle rest (by simp [hp])]
    exact ⟨_, rfl, ⟨rfl, hp, hicnt, hkrem, status_of_ready hp hicnt hkrem⟩, rfl⟩

/-- A TICK brings the end of the wait one clock nearer. -/
theorem waiting_tick {rest : List HostOp} {n : Nat} {s : State} (h : Waiting rest (n + 1) s) :
    Waiting rest n (tick s) := by
  obtain ⟨hprog, hkrem, ⟨hp, hle, hmissing⟩ | hready⟩ := h
  · rw [tick_init_icnt hp]
    refine ⟨hprog, hkrem, ?_⟩
    by_cases hlast : s.icnt = 31
    · exact .inr ⟨if_pos hlast, by rw [hlast]; rfl⟩
    · have hne : s.icnt.toNat ≠ 31 := fun h => hlast (BitVec.eq_of_toNat_eq h)
      refine .inl ⟨if_neg hlast, ?_⟩
      simp only [icnt_succ_toNat hle]
      omega
  · rw [tick_outside_init (by simp [hready.1])]
    exact ⟨hprog, hkrem, .inr hready⟩

theorem ready_of_waiting_zero {rest : List HostOp} {s : State} (h : Waiting rest 0 s) : s.phase = .ready := by
  obtain ⟨-, -, ⟨-, hle, hmissing⟩ | hready⟩ := h
  · omega
  · exact hready.1

theorem tick_err (s : State) : (tick s).err = s.err := by
  rw [tick_frame]

theorem tick_schedule (s : State) : (tick s).schedule = s.schedule := by
  rw [tick_frame]

theorem tick_reads (s : State) : (tick s).reads = s.reads := by
  rw [tick_frame]

/-- Within `n` steps the wait_ready of `s` ends, its last value read being STATUS. -/
def WaitEndsWithin (rest : List HostOp) (n : Nat) (s : State) : Prop :=
  ∃ k t, k ≤ n ∧ s.run k = .next t ∧ WaitEnded rest s t ∧ t.reads.getLast? = some t.status

theorem waitEndsWithin_of_step {rest : List HostOp} {n : Nat} {s u : State} (h : step s = .next u)
    (he : u.err = s.err) (hu : WaitEndsWithin rest n u) : WaitEndsWithin rest (n + 1) s := by
  obtain ⟨k, t, hk, hrun, hend, hlast⟩ := hu
  exact ⟨k + 1, t, by omega, (run_succ h k).trans hrun, by rwa [WaitEnded, ← he], hlast⟩

/-- The host's poll in READY, where `u` is `s` without the turn. -/
theorem waitEndsWithin_of_poll {rest : List HostOp} {m : Nat} {s u : State} (n : Nat) (h : step s = hostStep u)
    (he : u.err = s.err) (hw : Waiting rest m u) (hp : u.phase = .ready) : WaitEndsWithin rest (n + 1) s := by
  obtain ⟨t, ht, hend, hreads⟩ := waiting_poll_ready hw hp
  exact ⟨1, t, by omega, run_succ (h.trans ht) 0, by rwa [WaitEnded, ← he], by simp [hreads]⟩

/-- Under a schedule of host and core turns the wait ends no later than with the host turn after enough TICKs. -/
theorem waitEndsWithin_of_schedule {rest : List HostOp} {more turns : List Turn} {s : State}
    (hturns : ∀ x ∈ turns, x = .host ∨ x = .core) (hs : s.schedule = turns ++ .host :: more)
    (h : Waiting rest (turns.count .core) s) : WaitEndsWithin rest (turns.length + 1) s := by
  induction turns generalizing s with
  | nil => exact waitEndsWithin_of_poll 0 (step_host_turn hs) rfl h (ready_of_waiting_zero h)
  | cons x turns ih =>
    obtain ⟨hx, hrest⟩ := List.forall_mem_cons.mp hturns
    have hspent : s.spendTurn.schedule = turns ++ .host :: more := by
      rw [State.spendTurn, hs]
      rfl
    obtain rfl | rfl := hx
    · have hw : Waiting rest (turns.count .core) s := by simpa using h
      by_cases hp : s.phase = .init
      · have hpoll : step s = .next (busRead .status s.spendTurn) := by
          rw [step_host_turn hs, hostStep_poll (s := s.spendTurn) h.1, pollReady_busy rest (s := s.spendTurn) hp]
        exact waitEndsWithin_of_step hpoll rfl (ih hrest hspent hw)
      · have hready : s.phase = .ready := (h.2.2.resolve_left fun hinit => hp hinit.1).1
        exact waitEndsWithin_of_poll _ (step_host_turn hs) rfl hw hready
    · have hw : Waiting rest (turns.count .core + 1) s := by simpa using h
      have hticked : Waiting rest (turns.count .core) (tick s.spendTurn) := waiting_tick hw
      exact waitEndsWithin_of_step (step_core_turn hs) (tick_err _) (ih hrest ((tick_schedule _).trans hspent) hticked)

/-- With nothing scheduled the missing TICKs come first, and then the poll that ends the wait (log 3). -/
theorem run_unscheduled_wait {rest : List HostOp} {n : Nat} {s : State} (hs : s.schedule = [])
    (h : Waiting rest n s) (hn : 32 - s.icnt.toNat = n) :
    ∃ t, s.run (n + 1) = .next t ∧ WaitEnded rest s t ∧ t.reads = s.reads ++ [t.status] := by
  induction n generalizing s with
  | zero =>
    have hp := ready_of_waiting_zero h
    obtain ⟨t, ht, hend⟩ := waiting_poll_ready h hp
    exact ⟨t, run_succ ((step_unscheduled_poll hs h.1 (by simp [hp])).trans ht) 0, hend⟩
  | succ n ih =>
    obtain ⟨hprog, -, ⟨hp, hle, -⟩ | ⟨-, hicnt⟩⟩ := id h
    · have hcount : (tick s).icnt.toNat = s.icnt.toNat + 1 := by
        rw [tick_init_icnt hp]
        exact icnt_succ_toNat hle
      obtain ⟨t, hrun, hend, hlast⟩ := ih ((tick_schedule s).trans hs) (waiting_tick h) (by omega)
      exact ⟨t, (run_succ (step_unscheduled_wait hs hprog hp) _).trans hrun, by rwa [WaitEnded, ← tick_err s],
        tick_reads s ▸ hlast⟩
    · rw [hicnt] at hn
      cases hn

/-- Settles O58: a state of INIT that meets the invariant waits for the TICKs missing in ICNT. -/
theorem waitReadyEnds : Obligations.WaitReadyEnds := by
  unfold Obligations.WaitReadyEnds
  intro s rest hinv hp hprog
  have hkrem : s.krem = 0 := hinv.no_residual (by simp [hp])
  have hwait {n : Nat} (hn : 32 - s.icnt.toNat ≤ n) : Waiting rest n s :=
    ⟨hprog, hkrem, .inl ⟨hp, hinv.init_icnt hp, hn⟩⟩
  constructor
  · intro turns more hs hturns hcount
    obtain ⟨k, t, hk, hrun, ⟨hrest, hready, hicnt, hkrem', hstatus⟩, hlast⟩ :=
      waitEndsWithin_of_schedule hturns hs (hwait hcount)
    exact ⟨k, t, hk, hrun, hrest, hready, hicnt, hkrem', hlast, hstatus⟩
  · intro hs
    obtain ⟨t, hrun, ⟨hrest, hready, hicnt, hkrem', hstatus⟩, hreads⟩ := run_unscheduled_wait hs (hwait le_rfl) rfl
    exact ⟨t, hrun, hrest, hready, hicnt, hkrem', hreads, hstatus⟩

end Sys2Proof
end
